-- ==== Sys2Proof/Word.lean ====
section
/-! DEFINITION. The word types of the links: a number travels as bytes, most significant first (R170). -/

namespace Sys2Proof

/-- One byte of a frame. -/
abbrev Byte := BitVec 8

/-- A number of two bytes. -/
abbrev Word16 := BitVec 16

/-- A coil serial: three bytes, 0 to 16,777,215 (R1). -/
abbrev Word24 := BitVec 24

end Sys2Proof
end

