-- ==== Sys2Proof/Config.lean ====
section
/-! DEFINITION. The numbers the manual fixes for every part, and the one value it leaves open. -/

namespace Sys2Proof.Config

/-- Places in the Joint Table (R1). -/
def tableSlots : Nat := 512
/-- A Create Joints that reaches this live count raises the table-high mark (R2). -/
def tableHighAt : Nat := 480
/-- A retirement that reaches this live count re-arms the mark (R2). -/
def tableArmAt : Nat := 448
/-- Most entries of one Create Joints (R8). -/
def createMax : Nat := 32
/-- Most matches of one Find (R12). -/
def findMax : Nat := 16
/-- A record is heated again at most this often (R22, R23). -/
def reheatMax : Nat := 2
/-- The energy field saturates here, in mJ (R87). -/
def energyMax : Nat := 61470000
/-- Phase elapsed and the reported ms since a grant saturate here (R51, R4). -/
def elapsedMax : Nat := 65535
/-- The step of the integral is taken over at most this many ms (R79). -/
def intervalMax : Nat := 1000
/-- The setpoint at a heating start that finds T absent, in m°C (R49). -/
def coldSetpoint : Nat := 250000
/-- The lowest and the highest accepted temperature (R121). -/
def tempMin : Nat := 250
def tempMax : Nat := 1150
/-- Most entries of a slot set, of the priority list and of a group (R94). -/
def setMax : Nat := 16
def listMax : Nat := 8
/-- Most answers in a queue (R165). -/
def queueMax : Nat := 2
/-- The largest length byte of a frame (R159). -/
def payloadMax : Nat := 250

/-! Times, in µs. -/

/-- A sample period (R121). -/
def periodTime : Nat := 2000
/-- A flow window (R130). -/
def flowWindowTime : Nat := 100000
/-- Between two DC-link samples, and between two fault-line samples (R144, R146). -/
def sampleTime : Nat := 1000
/-- The guard of a slot (R96). -/
def guardTime : Nat := 1000
/-- The write of one stored profile, and of all of them (R41). -/
def profileWriteTime : Nat := 1250
def storeTime : Nat := 40000
/-- The write of the configuration record (R182). -/
def configWriteTime : Nat := 5000
/-- The longest pause within a frame (R161). -/
def brokenOffTime : Nat := 5000
/-- The start-up quiet period (R181). -/
def quietTime : Nat := 20000

/-- FREE VALUE (log 14, DESIGN CHOICE). The frequency held when the two edges of a tank measurement are timed
0 µs apart: R132 divides by that time and states no result for 0. Nothing constrains this value. -/
opaque tankFrequencyOfZero : Nat

end Sys2Proof.Config
end

