-- ==== Sys2Proof/Syntax.lean ====
section
/-! DEFINITION. The commands: one constructor for each row of spec/opcode_table.json, with what the command
brings. A request carries its payload at the widths of R170, so a byte outside a code table can be sent. -/

namespace Sys2Proof

/-- A port that requests arrive on (R158, R169). -/
inductive Link where
  | cell
  | inspection
  deriving DecidableEq, Repr

/-- A joint key: coil serial and position (R1). As a key mask it holds the digits compared (R11). -/
structure Key where
  serial : Word24
  position : Byte
  deriving DecidableEq, Repr

/-- The class code a pyrometer sends with a reading (R121). DEDUCED (log 31): the codes' own bits are not given. -/
inductive ReadingClass where
  | valid
  | under
  | over
  | other
  deriving DecidableEq, Repr

/-- The nineteen bytes of a configuration record, in field index order (R179). -/
structure ConfigRecord where
  headCount : Byte
  rating : Word16
  slotLength : Byte
  derate : Byte
  supplyLevel : Byte
  clampFilter : Byte
  flowMinimum : Byte
  sampleLoss : Byte
  linkSpeed : Byte
  levels : Vector Byte 9
  deriving DecidableEq, Repr

/-- How the two works of a slot end, the energy and the tank judgement, are taken (R107): in either order, or the energy
alone, the judgement left to a second SLOT_END so that other events can be taken between the two (R133, log 35). -/
inductive SlotEndOrder where
  | energyFirst | tankFirst | energyAlone
  deriving DecidableEq, Repr

/-- A command. DESIGN CHOICE (log 1): `t` is the time, in µs of the time base, before which it is not taken. -/
inductive Instr where
  -- reset and start-up
  | hardwareReset
  | quietPeriodEnd (t : Nat)
  | resetAssertedOrPowerLost
  -- Joint Table requests
  | createJoints (t : Nat) (l : Link) (tag : Byte) (serial : Word24) (entries : List (Byte × Byte))
  | lookup (t : Nat) (l : Link) (tag : Byte) (key : Key)
  | find (t : Nat) (l : Link) (tag : Byte) (code mask : Key) (states : Byte) (start : Word16)
  | bind (t : Nat) (l : Link) (tag : Byte) (key : Key) (head : Byte)
  | unbind (t : Nat) (l : Link) (tag : Byte) (key : Key)
  | setVerdict (t : Nat) (l : Link) (tag : Byte) (key : Key) (verdict : Byte)
  | rearm (t : Nat) (l : Link) (tag : Byte) (key : Key)
  | retire (t : Nat) (l : Link) (tag : Byte) (key : Key)
  | retireMatching (t : Nat) (l : Link) (tag : Byte) (code mask : Key)
  -- profiles
  | writeProfile (t : Nat) (l : Link) (tag : Byte) (number flag : Byte) (fields : Vector Word16 16)
  | readProfile (t : Nat) (l : Link) (tag : Byte) (number : Byte)
  | storeProfiles (t : Nat) (l : Link) (tag : Byte)
  | storedProfileWritten (t : Nat)
  | storeProfilesComplete (t : Nat)
  -- heat cycle
  | abort (t : Nat) (l : Link) (tag : Byte) (head : Byte)
  | periodClose (t : Nat) (h : Fin 8) (clampHigh : Bool)
  | coolingTimerExpiry (t : Nat) (h : Fin 8)
  -- slot scheduler requests
  | writeSlots (t : Nat) (l : Link) (tag : Byte) (set : Byte) (entries : List (Byte × Byte))
  | readSlots (t : Nat) (l : Link) (tag : Byte) (set : Byte)
  | switchSlots (t : Nat) (l : Link) (tag : Byte) (set : Byte)
  | writePriority (t : Nat) (l : Link) (tag : Byte) (entries : List (Byte × Byte))
  | writeGroup (t : Nat) (l : Link) (tag : Byte) (group : Byte) (members : List Byte)
  -- slot events; order: how the two works of a slot end are taken (R107, R133)
  | slotStart (t : Nat)
  | guardEnd (t : Nat)
  | tankMeasurementBegin (t : Nat)
  | tankMeasurementEnd (t : Nat)
  | slotEnd (t : Nat) (order : SlotEndOrder)
  -- head requests
  | enableHead (t : Nat) (l : Link) (tag : Byte) (head : Byte)
  | disableHead (t : Nat) (l : Link) (tag : Byte) (head : Byte)
  | clearFault (t : Nat) (l : Link) (tag : Byte) (head : Byte)
  | readHead (t : Nat) (l : Link) (tag : Byte) (head : Byte)
  -- head line events; spansClose: the reading was still being received at the last period close (R121)
  | readingReceived (t : Nat) (h : Fin 8) (cls : ReadingClass) (temp : Nat) (parityOk spansClose : Bool)
  | feederPulse (t : Nat) (h : Fin 8)
  | flowPulse (t : Nat) (h : Fin 8)
  | flowWindowClose (t : Nat) (h : Fin 8)
  -- cell requests
  | start (t : Nat) (l : Link) (tag : Byte)
  | stop (t : Nat) (l : Link) (tag : Byte)
  | haltAll (t : Nat) (l : Link) (tag : Byte)
  | clearTrip (t : Nat) (l : Link) (tag : Byte)
  | readCell (t : Nat) (l : Link) (tag : Byte)
  -- supply events; the link voltage in mV (0 to 1023 V); warningFirst: which judgement of a sample is taken first (R144)
  | dcLinkSample (t : Nat) (millivolts : Fin 1023001) (warningFirst : Bool)
  | faultLineSample (t : Nat) (low : Bool)
  -- event requests
  | readEvents (t : Nat) (l : Link) (tag : Byte)
  | acknowledgeEvents (t : Nat) (l : Link) (tag : Byte) (kinds : List Byte)
  | setLevels (t : Nat) (l : Link) (tag : Byte) (pairs : List (Byte × Byte))
  -- configuration
  | writeConfig (t : Nat) (l : Link) (tag : Byte) (record : ConfigRecord)
  | writeConfigComplete (t : Nat)
  | readConfig (t : Nat) (l : Link) (tag : Byte)
  | identify (t : Nat) (l : Link) (tag : Byte)
  -- links
  | unknownRequest (t : Nat) (l : Link) (tag : Byte) (code : Byte)
  | frameWrongLength (t : Nat) (l : Link) (length : Byte)
  | frameCheckFailure (t : Nat) (l : Link)
  | frameBrokenOff (t : Nat) (l : Link)
  | linkByteCompletes (t : Nat) (l : Link) (byte : Byte)
  | answerSent (t : Nat) (l : Link)
  | transactionBegin (t : Nat)
  | transactionEnd (t : Nat)
  deriving DecidableEq, Repr

end Sys2Proof
end

