-- ==== Sys2Proof/Decode.lean ====
section
/-! DEFINITION. What bytes spell: the request catalogue (R169), the layout of a request's payload (R170) read by
`decodeRequest` and written by `encodeRequest`, the check byte (R160), and the table's words (none: no row of
spec/opcode_table.json gives bits). -/

namespace Sys2Proof

/-- A request of the catalogue of section 8.6. -/
inductive RequestCode where
  | createJoints | lookup | find | bind | unbind | setVerdict | rearm | retire | retireMatching
  | writeProfile | readProfile | storeProfiles | abort
  | writeSlots | readSlots | switchSlots | writePriority | writeGroup
  | enableHead | disableHead | clearFault | readHead
  | start | stop | haltAll | clearTrip | readCell
  | readEvents | acknowledgeEvents | setLevels
  | writeConfig | readConfig | identify
  deriving DecidableEq, Repr

/-- The code byte of a request (R169, catalogue). -/
def RequestCode.toByte : RequestCode → Byte
  | .createJoints => 0x10 | .lookup => 0x11 | .find => 0x12 | .bind => 0x13 | .unbind => 0x14
  | .setVerdict => 0x15 | .rearm => 0x16 | .retire => 0x17 | .retireMatching => 0x18
  | .writeProfile => 0x20 | .readProfile => 0x21 | .storeProfiles => 0x22 | .abort => 0x28
  | .writeSlots => 0x30 | .readSlots => 0x31 | .switchSlots => 0x32 | .writePriority => 0x33 | .writeGroup => 0x34
  | .enableHead => 0x40 | .disableHead => 0x41 | .clearFault => 0x42 | .readHead => 0x43
  | .start => 0x50 | .stop => 0x51 | .haltAll => 0x52 | .clearTrip => 0x53 | .readCell => 0x54
  | .readEvents => 0x60 | .acknowledgeEvents => 0x61 | .setLevels => 0x62
  | .writeConfig => 0x70 | .readConfig => 0x71 | .identify => 0x72

/-- Every request of the catalogue, in its order. -/
def allRequestCodes : List RequestCode :=
  [.createJoints, .lookup, .find, .bind, .unbind, .setVerdict, .rearm, .retire, .retireMatching,
   .writeProfile, .readProfile, .storeProfiles, .abort,
   .writeSlots, .readSlots, .switchSlots, .writePriority, .writeGroup,
   .enableHead, .disableHead, .clearFault, .readHead,
   .start, .stop, .haltAll, .clearTrip, .readCell,
   .readEvents, .acknowledgeEvents, .setLevels, .writeConfig, .readConfig, .identify]

/-- The request a code byte names, none where it names no request (R162 step 3). -/
def requestCodeOf (b : Byte) : Option RequestCode :=
  allRequestCodes.find? fun c => c.toByte = b

/-- The access class (R169): the Cell Link may use every request, the Inspection Link five of them. -/
def RequestCode.permittedOn (c : RequestCode) : Link → Bool
  | .cell => true
  | .inspection => match c with
    | .lookup | .find | .setVerdict | .retire | .identify => true
    | _ => false

/-- The payload lengths the link accepts: the catalogue's length column, k any number that keeps it within 250 (R169). -/
def RequestCode.lengthSuits (c : RequestCode) (n : Nat) : Bool :=
  match c with
  | .createJoints => n ≤ Config.payloadMax ∧ 3 ≤ n ∧ n % 2 = 1
  | .writeSlots => n ≤ Config.payloadMax ∧ n % 2 = 1
  | .writePriority | .setLevels => n ≤ Config.payloadMax ∧ n % 2 = 0
  | .writeGroup => n ≤ Config.payloadMax ∧ 1 ≤ n
  | .acknowledgeEvents => n ≤ Config.payloadMax
  | .find => n = 11
  | .retireMatching => n = 8
  | .bind | .setVerdict => n = 5
  | .lookup | .unbind | .rearm | .retire => n = 4
  | .writeProfile => n = 34
  | .writeConfig => n = 19
  | .readProfile | .abort | .readSlots | .switchSlots | .enableHead | .disableHead | .clearFault | .readHead => n = 1
  | .storeProfiles | .start | .stop | .haltAll | .clearTrip | .readCell | .readEvents | .readConfig | .identify => n = 0

/-! Reading numbers, keys and lists out of a payload: most significant byte first (R170). -/

def byteAt (p : List Byte) (n : Nat) : Byte := p.getD n 0

def word16At (p : List Byte) (n : Nat) : Word16 := byteAt p n ++ byteAt p (n + 1)

def word24At (p : List Byte) (n : Nat) : Word24 := byteAt p n ++ byteAt p (n + 1) ++ byteAt p (n + 2)

/-- A key: the 3-byte coil serial and then the 1-byte position. -/
def keyAt (p : List Byte) (n : Nat) : Key := { serial := word24At p n, position := byteAt p (n + 3) }

/-- A list of entries of two bytes each. -/
def pairsOf : List Byte → List (Byte × Byte)
  | a :: b :: rest => (a, b) :: pairsOf rest
  | _ => []

/-- The nineteen bytes of a configuration record (R179). -/
def configRecordOf (p : List Byte) : ConfigRecord :=
  { headCount := byteAt p 0, rating := word16At p 1, slotLength := byteAt p 3, derate := byteAt p 4,
    supplyLevel := byteAt p 5, clampFilter := byteAt p 6, flowMinimum := byteAt p 7, sampleLoss := byteAt p 8,
    linkSpeed := byteAt p 9, levels := Vector.ofFn fun i : Fin 9 => byteAt p (10 + i.val) }

/-- The command that a request's payload spells, for a payload of a length that suits the request (R170). -/
def decodeRequest (t : Nat) (l : Link) (tag : Byte) (c : RequestCode) (p : List Byte) : Instr :=
  match c with
  | .createJoints => .createJoints t l tag (word24At p 0) (pairsOf (p.drop 3))
  | .lookup => .lookup t l tag (keyAt p 0)
  | .find => .find t l tag (keyAt p 0) (keyAt p 4) (byteAt p 8) (word16At p 9)
  | .bind => .bind t l tag (keyAt p 0) (byteAt p 4)
  | .unbind => .unbind t l tag (keyAt p 0)
  | .setVerdict => .setVerdict t l tag (keyAt p 0) (byteAt p 4)
  | .rearm => .rearm t l tag (keyAt p 0)
  | .retire => .retire t l tag (keyAt p 0)
  | .retireMatching => .retireMatching t l tag (keyAt p 0) (keyAt p 4)
  | .writeProfile =>
    .writeProfile t l tag (byteAt p 0) (byteAt p 1) (Vector.ofFn fun i : Fin 16 => word16At p (2 + 2 * i.val))
  | .readProfile => .readProfile t l tag (byteAt p 0)
  | .storeProfiles => .storeProfiles t l tag
  | .abort => .abort t l tag (byteAt p 0)
  | .writeSlots => .writeSlots t l tag (byteAt p 0) (pairsOf (p.drop 1))
  | .readSlots => .readSlots t l tag (byteAt p 0)
  | .switchSlots => .switchSlots t l tag (byteAt p 0)
  | .writePriority => .writePriority t l tag (pairsOf p)
  | .writeGroup => .writeGroup t l tag (byteAt p 0) (p.drop 1)
  | .enableHead => .enableHead t l tag (byteAt p 0)
  | .disableHead => .disableHead t l tag (byteAt p 0)
  | .clearFault => .clearFault t l tag (byteAt p 0)
  | .readHead => .readHead t l tag (byteAt p 0)
  | .start => .start t l tag
  | .stop => .stop t l tag
  | .haltAll => .haltAll t l tag
  | .clearTrip => .clearTrip t l tag
  | .readCell => .readCell t l tag
  | .readEvents => .readEvents t l tag
  | .acknowledgeEvents => .acknowledgeEvents t l tag p
  | .setLevels => .setLevels t l tag (pairsOf p)
  | .writeConfig => .writeConfig t l tag (configRecordOf p)
  | .readConfig => .readConfig t l tag
  | .identify => .identify t l tag

/-! Writing numbers, keys and lists into a payload (R170). -/

/-- A number sent as one byte. -/
def byteOf (n : Nat) : Byte := BitVec.ofNat 8 n

/-- A number sent as two bytes. -/
def bytes2 (n : Nat) : List Byte := [byteOf (n / 256), byteOf n]

/-- A number sent as four bytes. -/
def bytes4 (n : Nat) : List Byte := bytes2 (n / 65536) ++ bytes2 n

def word16Bytes (w : Word16) : List Byte := bytes2 w.toNat

def word24Bytes (w : Word24) : List Byte := byteOf (w.toNat / 65536) :: bytes2 w.toNat

def keyBytes (k : Key) : List Byte := word24Bytes k.serial ++ [k.position]

def pairBytes (e : List (Byte × Byte)) : List Byte := e.flatMap fun x => [x.1, x.2]

def configRecordBytes (r : ConfigRecord) : List Byte :=
  [r.headCount] ++ word16Bytes r.rating ++
    [r.slotLength, r.derate, r.supplyLevel, r.clampFilter, r.flowMinimum, r.sampleLoss, r.linkSpeed] ++ r.levels.toList

/-- The request code and the payload that a request command travels as; none for a command that is no request. -/
def encodeRequest : Instr → Option (RequestCode × List Byte)
  | .createJoints _ _ _ serial entries => some (.createJoints, word24Bytes serial ++ pairBytes entries)
  | .lookup _ _ _ k => some (.lookup, keyBytes k)
  | .find _ _ _ code mask states start =>
    some (.find, keyBytes code ++ keyBytes mask ++ [states] ++ word16Bytes start)
  | .bind _ _ _ k head => some (.bind, keyBytes k ++ [head])
  | .unbind _ _ _ k => some (.unbind, keyBytes k)
  | .setVerdict _ _ _ k verdict => some (.setVerdict, keyBytes k ++ [verdict])
  | .rearm _ _ _ k => some (.rearm, keyBytes k)
  | .retire _ _ _ k => some (.retire, keyBytes k)
  | .retireMatching _ _ _ code mask => some (.retireMatching, keyBytes code ++ keyBytes mask)
  | .writeProfile _ _ _ number flag fields =>
    some (.writeProfile, [number, flag] ++ fields.toList.flatMap word16Bytes)
  | .readProfile _ _ _ number => some (.readProfile, [number])
  | .storeProfiles _ _ _ => some (.storeProfiles, [])
  | .abort _ _ _ head => some (.abort, [head])
  | .writeSlots _ _ _ set entries => some (.writeSlots, set :: pairBytes entries)
  | .readSlots _ _ _ set => some (.readSlots, [set])
  | .switchSlots _ _ _ set => some (.switchSlots, [set])
  | .writePriority _ _ _ entries => some (.writePriority, pairBytes entries)
  | .writeGroup _ _ _ group members => some (.writeGroup, group :: members)
  | .enableHead _ _ _ head => some (.enableHead, [head])
  | .disableHead _ _ _ head => some (.disableHead, [head])
  | .clearFault _ _ _ head => some (.clearFault, [head])
  | .readHead _ _ _ head => some (.readHead, [head])
  | .start _ _ _ => some (.start, [])
  | .stop _ _ _ => some (.stop, [])
  | .haltAll _ _ _ => some (.haltAll, [])
  | .clearTrip _ _ _ => some (.clearTrip, [])
  | .readCell _ _ _ => some (.readCell, [])
  | .readEvents _ _ _ => some (.readEvents, [])
  | .acknowledgeEvents _ _ _ kinds => some (.acknowledgeEvents, kinds)
  | .setLevels _ _ _ pairs => some (.setLevels, pairBytes pairs)
  | .writeConfig _ _ _ record => some (.writeConfig, configRecordBytes record)
  | .readConfig _ _ _ => some (.readConfig, [])
  | .identify _ _ _ => some (.identify, [])
  | .hardwareReset | .quietPeriodEnd _ | .resetAssertedOrPowerLost | .storedProfileWritten _
  | .storeProfilesComplete _ | .periodClose _ _ _ | .coolingTimerExpiry _ _ | .slotStart _ | .guardEnd _
  | .tankMeasurementBegin _ | .tankMeasurementEnd _ | .slotEnd _ _ | .readingReceived _ _ _ _ _ _
  | .feederPulse _ _ | .flowPulse _ _ | .flowWindowClose _ _ | .dcLinkSample _ _ _ | .faultLineSample _ _
  | .writeConfigComplete _ | .unknownRequest _ _ _ _ | .frameWrongLength _ _ _ | .frameCheckFailure _ _
  | .frameBrokenOff _ _ | .linkByteCompletes _ _ _ | .answerSent _ _ | .transactionBegin _ | .transactionEnd _ => none

/-! The frame (R160, R170). -/

/-- The start byte of a frame. -/
def startByte : Byte := 0xC3

/-- One digit of the CRC with polynomial x⁸ + x² + x + 1 (R160). -/
def crcShift (c : Byte) : Byte := if c.msb then (c <<< 1) ^^^ 0x07 else c <<< 1

/-- The CRC after one more byte, its most significant digit first (R160). -/
def crcByte (c b : Byte) : Byte :=
  crcShift (crcShift (crcShift (crcShift (crcShift (crcShift (crcShift (crcShift (c ^^^ b))))))))

/-- The CRC-8 of the covered bytes: initial value 0, no final inversion (R160). -/
def crc8 (bytes : List Byte) : Byte := bytes.foldl crcByte 0

/-- A whole frame: start byte, length, code or status, tag, payload, check byte (R170). -/
def frameBytes (code tag : Byte) (payload : List Byte) : List Byte :=
  let covered := byteOf payload.length :: code :: tag :: payload
  startByte :: covered ++ [crc8 covered]

/-- The whole frame that a request command travels as. -/
def encodeFrame (tag : Byte) (i : Instr) : Option (List Byte) :=
  (encodeRequest i).map fun x => frameBytes x.1.toByte tag x.2

/-- The command that a word spells by the table's bits: no row of spec/opcode_table.json gives bits, so none. -/
def decodeTableWord (_nbits _w : Nat) : Option Instr := none

end Sys2Proof
end

