-- ==== Sys2Proof/Machine/State.lean ====
section
/-! DEFINITION. The state of the part: every record, register, queue, mode and line the manual gives it, block by
block (00 section 1.1), with the queue of the commands that wait. -/

namespace Sys2Proof.Machine

/-- Why the part stops. The manual gives the part no fault that stops it (a head fault is a head state, R135; a trip
is a cell state, R147; a refused request is an answer, R163), so no command raises this one; it is safe. -/
inductive Fault where
  /-- Raised by no command. -/
  | neverRaised
  deriving DecidableEq, Repr

/-- Why a command has no meaning. -/
inductive Refusal where
  /-- Raised by exec alone, for a row whose meaning has not been written; safe. -/
  | notModelled (mnemonic : String)
  deriving DecidableEq, Repr

/-! ### Joint Table (chapter 1) -/

/-- The state of a joint record (section 1.2). -/
inductive JointState where
  | planned | placed | ramp | soak | feed | cool | done | rejected
  deriving DecidableEq, Repr

/-- Why a joint was rejected (section 1.2). -/
inductive RejectCause where
  | overheat | slow | energy | clampLost | earlyRelease | sampleLoss | coupling | coolant | supply | generator | aborted
  deriving DecidableEq, Repr

/-- The inspection result of a joint (R20). -/
inductive Verdict where
  | accept | rework | scrap
  deriving DecidableEq, Repr

/-- A joint record (section 1.2, R3). -/
structure Joint where
  key : Key
  profile : Fin 32
  state : JointState
  head : Option (Fin 8)
  reheats : Nat
  lastTemp : Option Nat
  peakTemp : Option Nat
  /-- thousandths of °C -/
  setpoint : Option Nat
  /-- W -/
  integral : Nat
  /-- mJ -/
  energy : Nat
  /-- ms -/
  phaseElapsed : Nat
  /-- ms -/
  soaked : Nat
  feedAcc : Nat
  /-- steps of 0.1 mm -/
  fillerFed : Nat
  /-- ms of the time base -/
  lastGrant : Option Nat
  cause : Option RejectCause
  verdict : Option Verdict
  deriving DecidableEq, Repr

/-- The table-high mark (R2). -/
inductive Mark where
  | armed | raised
  deriving DecidableEq, Repr

/-- The live table slots, rising, each with its record (R1), and the table-high mark (R2). -/
structure JointTable where
  records : List (Nat × Joint)
  mark : Mark
  deriving DecidableEq, Repr

/-! ### Profile Table (chapter 2) -/

/-- The sixteen fields of a profile (R32), in field index order. -/
structure ProfileFields where
  target : Nat
  soakBand : Nat
  overshoot : Nat
  solidus : Nat
  rampRate : Nat
  soakTime : Nat
  kp : Nat
  ki : Nat
  powerCeiling : Nat
  maxEnergy : Nat
  maxRampTime : Nat
  feedLength : Nat
  feedRate : Nat
  coolTime : Nat
  tankMin : Nat
  tankMax : Nat
  deriving DecidableEq, Repr

/-- The fields of a profile that did not load (R44). -/
def ProfileFields.zeros : ProfileFields :=
  { target := 0, soakBand := 0, overshoot := 0, solidus := 0, rampRate := 0, soakTime := 0, kp := 0, ki := 0,
    powerCeiling := 0, maxEnergy := 0, maxRampTime := 0, feedLength := 0, feedRate := 0, coolTime := 0, tankMin := 0,
    tankMax := 0 }

/-- The status of a working profile (R31). -/
inductive ProfileStatus where
  | stored | written | lost
  deriving DecidableEq, Repr

/-- A working profile (R31). -/
structure Profile where
  valid : Bool
  fields : ProfileFields
  status : ProfileStatus
  deriving DecidableEq, Repr

/-- A stored profile (R31). The stored check is held as whether it agrees with the flag and fields (R43, log 7). -/
structure StoredProfile where
  valid : Bool
  fields : ProfileFields
  checkAgrees : Bool
  deriving DecidableEq, Repr

/-- A Store Profiles in progress (R41): the captured profiles, how many are written, and when it was taken. -/
structure StoreRun where
  captured : Vector Profile 32
  written : Nat
  since : Nat
  deriving DecidableEq, Repr

structure ProfileTable where
  working : Vector Profile 32
  stored : Vector StoredProfile 32
  store : Option StoreRun
  deriving DecidableEq, Repr

/-! ### Head Channels (chapter 6) -/

/-- The head state (R119). -/
inductive HeadState where
  | off | idle | loaded | heating | cooling | release | fault
  deriving DecidableEq, Repr

/-- The cause of a head fault (R118). -/
inductive FaultCause where
  | flow | sample | tank
  deriving DecidableEq, Repr

/-- A classified reading (R121). -/
inductive Reading where
  | valid (temp : Nat)
  | under
  | over
  | bad
  deriving DecidableEq, Repr

/-- A head record (R118), with the reading kept for the running period (R121), the open flow window (R130) and the
due time of the next period close (R121). -/
structure Head where
  state : HeadState
  bound : Option Key
  faultCause : Option FaultCause
  window : List Nat
  missed : Nat
  clampClosed : Bool
  clampCount : Nat
  lastFlow : Option Nat
  lowFlow : Nat
  lastTank : Option Nat
  tankMiss : Nat
  /-- none: stopped; otherwise the time of its expiry, in µs (log 22) -/
  coolingUntil : Option Nat
  stepsWaiting : Nat
  kept : Option Reading
  flowPulses : Nat
  flowOpened : Nat
  closeDue : Nat
  deriving DecidableEq, Repr

/-- A head record after hardware reset (R118). -/
def Head.atReset : Head :=
  { state := .off, bound := none, faultCause := none, window := [], missed := 0, clampClosed := false, clampCount := 0,
    lastFlow := none, lowFlow := 0, lastTank := none, tankMiss := 0, coolingUntil := none, stepsWaiting := 0,
    kept := none, flowPulses := 0, flowOpened := 0, closeDue := 0 }

/-! ### Power Computation Unit (chapter 4) -/

/-- An open grant account (R74). -/
structure Account where
  head : Fin 8
  joint : Key
  /-- P, in W -/
  demand : Nat
  /-- Dc -/
  code : Nat
  /-- the time of the guard end, in µs (log 3) -/
  since : Nat
  deriving DecidableEq, Repr

/-- The start reference of each head, in ms of the time base, and the grant account, none while closed (R74). -/
structure Power where
  startRefs : Vector (Option Nat) 8
  account : Option Account
  deriving DecidableEq, Repr

/-! ### Slot Scheduler (chapter 5) -/

inductive SetName where
  | a | b
  deriving DecidableEq, Repr

/-- The phases in which an entry's slot may be granted (R98). -/
inductive Qualifier where
  | any | ramp | hold
  deriving DecidableEq, Repr

/-- An entry of a slot set or of the priority list (R98). -/
structure SlotEntry where
  head : Fin 8
  qualifier : Qualifier
  deriving DecidableEq, Repr

/-- A round-robin group and its last-served pointer (R94). -/
structure RobinGroup where
  members : List (Fin 8)
  pointer : Option (Fin 8)
  deriving DecidableEq, Repr

/-- The source of a grant (R94). -/
inductive Source where
  | scheduled | priority | group1 | group2
  deriving DecidableEq, Repr

structure Grant where
  head : Fin 8
  source : Source
  deriving DecidableEq, Repr

/-- The current slot (R94): no grant in an idle slot. -/
structure CurrentSlot where
  position : Nat
  start : Nat
  grant : Option Grant
  cut : Bool
  guardEnded : Bool
  deriving DecidableEq, Repr

/-- The tank judgement of a slot whose end has been taken but for it (R133, log 35): the head, the joint it had bound at the
slot end, and the measurement handed to it. The model's own: a step of the slot end in progress. -/
structure SlotTank where
  head : Fin 8
  joint : Option Key
  measured : Option Nat
  deriving DecidableEq, Repr

structure Scheduler where
  setA : List SlotEntry
  setB : List SlotEntry
  active : SetName
  switchTo : Option SetName
  priority : List SlotEntry
  group1 : RobinGroup
  group2 : RobinGroup
  position : Nat
  current : Option CurrentSlot
  /-- the time at which the next slot start is taken, while one is awaited (R95, R96) -/
  startDue : Option Nat
  /-- the second work of a slot end, while other events may be taken before it (R133, log 35) -/
  judging : Option SlotTank
  deriving DecidableEq, Repr

/-- The scheduler after hardware reset (R94). -/
def Scheduler.atReset : Scheduler :=
  { setA := [], setB := [], active := .a, switchTo := none, priority := [],
    group1 := { members := [], pointer := none }, group2 := { members := [], pointer := none },
    position := 0, current := none, startDue := none, judging := none }

/-! ### Generator Interface (sections 5.4, 6.5, 7.9) -/

/-- The tank measurement of the running slot (R132). -/
inductive TankMeasure where
  | off
  /-- a non-zero code was handed over: the first rising edge after the guard end is awaited -/
  | armed
  | timing (since : Nat)
  | ended (frequency : Nat)
  deriving DecidableEq, Repr

/-- What the Generator Interface drives (R156): GEN; GCON and GSEL as the connected head; the demand code. -/
structure Generator where
  enable : Bool
  connected : Option (Fin 8)
  code : BitVec 12
  tank : TankMeasure
  deriving DecidableEq, Repr

/-- An action on the part's output lines. -/
inductive LineAction where
  /-- a transfer of the demand code: the digits on GD_DAT in order, ended by a GD_LD pulse (R156) -/
  | transfer (digits : List Bool)
  /-- GCON and GSEL: the head now connected, or none -/
  | connect (head : Option (Fin 8))
  /-- GEN -/
  | enable (high : Bool)
  /-- one pulse on a feeder step line (R134) -/
  | feederPulse (head : Fin 8)
  /-- an answer frame, gone out whole on IL_TX (R168) -/
  | transmit (frame : List Byte)
  deriving DecidableEq, Repr

/-! ### Supply Monitor and Cell Control (chapter 7) -/

inductive CellState where
  | hold | run | derated | tripped
  deriving DecidableEq, Repr

/-- The cell record (R142), with the due times of the two samplings (R144, R146). -/
structure Cell where
  state : CellState
  warning : Bool
  causeSupply : Bool
  causeGenerator : Bool
  lastVolts : Option Nat
  clearFlag : Bool
  /-- the warning side is LOW -/
  warningLow : Bool
  warningCount : Nat
  /-- the trip side is BELOW -/
  tripBelow : Bool
  tripCount : Nat
  /-- the fault line is ASSERTED -/
  faultLine : Bool
  voltsDue : Nat
  faultLineDue : Nat
  deriving DecidableEq, Repr

/-- The cell record after hardware reset (R142, R157). -/
def Cell.atReset : Cell :=
  { state := .hold, warning := false, causeSupply := false, causeGenerator := false, lastVolts := none,
    clearFlag := false, warningLow := false, warningCount := 0, tripBelow := false, tripCount := 0,
    faultLine := false, voltsDue := 0, faultLineDue := 0 }

/-! ### Request Links (chapter 8) -/

/-- The receiver of a link (R158). -/
inductive Receiver where
  | waiting
  | collecting (bytes : List Byte) (lastAt : Nat)
  deriving DecidableEq, Repr

/-- A request that takes time (R164). -/
inductive SlowRequest where
  | storeProfiles | writeConfig
  deriving DecidableEq, Repr

structure InProgress where
  request : SlowRequest
  tag : Byte
  deriving DecidableEq, Repr

/-- What a link holds (R158): answer frames oldest first. -/
structure LinkState where
  receiver : Receiver
  inProgress : Option InProgress
  answers : List (List Byte)
  deriving DecidableEq, Repr

/-- A link after hardware reset (R158). -/
def LinkState.atReset : LinkState := { receiver := .waiting, inProgress := none, answers := [] }

/-- What an open Cell Link transaction shifts out (R166). -/
inductive Shifting where
  /-- 0x00: the queue was empty -/
  | filler
  /-- the oldest answer, of which so many bytes have been shifted -/
  | answer (shifted : Nat)
  deriving DecidableEq, Repr

/-- The Cell Link's lines: the open transaction, none while CL_SEL is high, and the byte last shifted out. -/
structure CellPort where
  transaction : Option Shifting
  dout : Byte
  /-- the last byte of an answer has gone out, and the byte on CL_DIN that the same clocks complete is yet to be taken
  (log 11) -/
  ahead : Bool
  deriving DecidableEq, Repr

/-! ### Event Unit (chapter 9) -/

/-- The event kinds, in code order (section 9.1). -/
inductive EventKind where
  | jointDone | jointRejected | headFault | supplyWarning | cellTripped | cellRecovered | slotsSwitched | tableHigh | linkError
  deriving DecidableEq, Repr

/-- An event kind's entry (R173). -/
structure EventEntry where
  pending : Bool
  count : Nat
  level : Fin 4
  deriving DecidableEq, Repr

/-! ### Configuration Record (chapter 10) -/

inductive SupplyLevel where
  | l | m | h
  deriving DecidableEq, Repr

inductive LinkSpeed where
  | baud115200 | baud460800
  deriving DecidableEq, Repr

/-- The running values (R179). -/
structure Running where
  headCount : Nat
  rating : Nat
  slotLength : Nat
  derate : Nat
  supplyLevel : SupplyLevel
  clampFilter : Nat
  flowMinimum : Nat
  sampleLoss : Nat
  linkSpeed : LinkSpeed
  levels : Vector (Fin 4) 9
  deriving DecidableEq, Repr

/-- The default values of R179. -/
def Running.defaults : Running :=
  { headCount := 8, rating := 20000, slotLength := 20, derate := 50, supplyLevel := .m, clampFilter := 4,
    flowMinimum := 10, sampleLoss := 5, linkSpeed := .baud115200, levels := #v[2, 1, 0, 1, 0, 1, 2, 2, 3] }

/-- The stored status (R179). -/
inductive ConfigStatus where
  | loaded | written | bad
  deriving DecidableEq, Repr

/-- A Write Config in progress (R182): the record being written and when it was taken. -/
structure ConfigWrite where
  record : ConfigRecord
  since : Nat
  deriving DecidableEq, Repr

/-- The Configuration Record block (R179). The stored check is held as whether it agrees (R180, log 7). -/
structure Configuration where
  stored : ConfigRecord
  checkAgrees : Bool
  running : Running
  status : ConfigStatus
  defaultsFlag : Bool
  write : Option ConfigWrite
  deriving DecidableEq, Repr

/-- A configuration record never written (log 6). -/
def blankConfigRecord : ConfigRecord :=
  { headCount := 0, rating := 0, slotLength := 0, derate := 0, supplyLevel := 0, clampFilter := 0, flowMinimum := 0,
    sampleLoss := 0, linkSpeed := 0, levels := #v[0, 0, 0, 0, 0, 0, 0, 0, 0] }

/-! ### The whole part -/

/-- Where the part stands in its start-up (R181, R183). -/
inductive Phase where
  /-- RST_N low, or no power -/
  | held
  /-- the 20 ms after a hardware reset -/
  | quiet
  | operating
  deriving DecidableEq, Repr

structure State where
  /-- the commands waiting, first in first out -/
  pending : List Instr
  phase : Phase
  /-- the time base, in µs (R74, log 3) -/
  now : Nat
  table : JointTable
  profiles : ProfileTable
  heads : Vector Head 8
  power : Power
  sched : Scheduler
  gen : Generator
  cell : Cell
  cellLink : LinkState
  inspLink : LinkState
  port : CellPort
  /-- the time at which the front answer of the Inspection Link began to go out on IL_TX, none while the line is idle
  (R168) -/
  txSince : Option Nat
  events : Vector EventEntry 9
  config : Configuration
  /-- what the command last taken did on the output lines, in order (R156, log 21) -/
  driven : List LineAction
  deriving DecidableEq, Repr

/-- The events after a hardware reset that loaded these levels (R173). -/
def eventsAtReset (levels : Vector (Fin 4) 9) : Vector EventEntry 9 :=
  levels.map fun l => { pending := false, count := 0, level := l }

/-- A part right after hardware reset whose nonvolatile memory was never written (DESIGN CHOICE, log 6): the records
fail their checks (R43, R180), so it runs on the defaults and every profile is LOST. -/
def State.reset : State :=
  { pending := [], phase := .quiet, now := 0,
    table := { records := [], mark := .armed },
    profiles :=
      { working := Vector.replicate 32 { valid := false, fields := .zeros, status := .lost },
        stored := Vector.replicate 32 { valid := false, fields := .zeros, checkAgrees := false },
        store := none },
    heads := Vector.replicate 8 Head.atReset,
    power := { startRefs := Vector.replicate 8 none, account := none },
    sched := Scheduler.atReset,
    gen := { enable := false, connected := none, code := 0, tank := .off },
    cell := Cell.atReset,
    cellLink := LinkState.atReset, inspLink := LinkState.atReset,
    port := { transaction := none, dout := 0, ahead := false },
    txSince := none,
    events := eventsAtReset Running.defaults.levels,
    config :=
      { stored := blankConfigRecord, checkAgrees := false, running := Running.defaults, status := .bad,
        defaultsFlag := true, write := none },
    driven := [.transfer (List.replicate 12 false)] }

end Sys2Proof.Machine
end

