-- ==== Sys2Proof/Machine/Flags.lean ====
section
/-! DEFINITION. What the part computes from its registers: the lines ATTN and CL_RDY, the filtered temperature, the
low-flow flag, the ceilings and the comparisons of a profile (R39), and the tests on states that many rules share. -/

namespace Sys2Proof.Machine

/-! ### Tests on states -/

/-- A heating joint: in RAMP, SOAK or FEED (R60). -/
def JointState.heating : JointState → Bool
  | .ramp | .soak | .feed => true
  | .planned | .placed | .cool | .done | .rejected => false

/-- The cell runs slots and heats: RUN or DERATED (R95, R47). -/
def CellState.running : CellState → Bool
  | .run | .derated => true
  | .hold | .tripped => false

/-- The phases a qualifier matches (R98). -/
def Qualifier.accepts : Qualifier → JointState → Bool
  | .any, js => js.heating
  | .ramp, js => js = .ramp
  | .hold, js => js = .soak ∨ js = .feed

/-- Phase elapsed counts in RAMP, SOAK, FEED and COOL (R51). -/
def JointState.timed (js : JointState) : Bool := js.heating ∨ js = .cool

/-! ### Event kinds (section 9.1) -/

/-- The code of an event kind. -/
def EventKind.code : EventKind → Fin 9
  | .jointDone => 0 | .jointRejected => 1 | .headFault => 2 | .supplyWarning => 3 | .cellTripped => 4
  | .cellRecovered => 5 | .slotsSwitched => 6 | .tableHigh => 7 | .linkError => 8

/-- The heads in order. -/
def allHeads : List (Fin 8) := [0, 1, 2, 3, 4, 5, 6, 7]

/-- The event codes in order. -/
def allKinds : List (Fin 9) := [0, 1, 2, 3, 4, 5, 6, 7, 8]

/-! ### The time base (R74) -/

/-- Whole ms of the time base. -/
def State.nowMs (s : State) : Nat := s.now / 1000

/-! ### Records -/

/-- The live count (R2). -/
def State.liveCount (s : State) : Nat := s.table.records.length

/-- A head record. -/
def State.head (s : State) (h : Fin 8) : Head := s.heads.get h

/-- The slot and the record that hold a key. -/
def State.slotOf (s : State) (k : Key) : Option (Nat × Joint) := s.table.records.find? fun x => x.2.key = k

/-- The record that holds a key. -/
def State.joint (s : State) (k : Key) : Option Joint := (s.slotOf k).map Prod.snd

/-- The record bound to a head, found through the head's bound joint (R30). -/
def State.boundJoint (s : State) (h : Fin 8) : Option Joint := (s.head h).bound.bind s.joint

/-- The working profile a record names, as it stands at the moment of use (section 2.5). -/
def State.profileOf (s : State) (j : Joint) : Profile := s.profiles.working.get j.profile

/-- A head heats: it is HEATING and its bound joint is in RAMP, SOAK or FEED. -/
def State.headHeats (s : State) (h : Fin 8) : Bool :=
  (s.head h).state = .heating ∧ (s.boundJoint h).any fun j => j.state.heating

/-- The state of a link. -/
def State.link (s : State) : Link → LinkState
  | .cell => s.cellLink
  | .inspection => s.inspLink

/-! ### Temperatures (R123) -/

/-- The mean of the window, rounded half up; absent while the window is empty (R123). -/
def windowMean (w : List Nat) : Option Nat :=
  if w = [] then none else some ((w.sum + w.length / 2) / w.length)

/-- The filtered temperature T of a head (R123). -/
def Head.temp (hd : Head) : Option Nat := windowMean hd.window

/-! ### Comparisons of a profile (R39) -/

/-- T is in band: present and at least target − soak band (R39). -/
def ProfileFields.inBand (p : ProfileFields) (temp : Option Nat) : Bool :=
  temp.any fun x => p.target ≤ x + p.soakBand

/-- T is over the overheat limit: present and above target + overshoot (R39, R52). -/
def ProfileFields.overLimit (p : ProfileFields) (temp : Option Nat) : Bool :=
  temp.any fun x => p.target + p.overshoot < x

/-- A tank frequency in Hz lies inside the window, both edges inside (R39). -/
def ProfileFields.tankInside (p : ProfileFields) (f : Nat) : Bool := p.tankMin * 100 ≤ f ∧ f ≤ p.tankMax * 100

/-- An energy in mJ exceeds the limit (R39). -/
def ProfileFields.overEnergy (p : ProfileFields) (energy : Nat) : Bool := p.maxEnergy * 1000 < energy

/-- A peak temperature passes the Rearm test (R22): absent, or below the solidus of a valid profile. -/
def Profile.peakPasses (p : Profile) (peak : Option Nat) : Bool :=
  peak.all fun x => p.valid ∧ x < p.fields.solidus

/-! ### Coolant (R130, R140) -/

/-- The head's last flow window was low; a head that has closed none since it was enabled counts as not low. -/
def Head.flowLow (hd : Head) (flowMinimum : Nat) : Bool := hd.lastFlow.any fun n => n < flowMinimum

/-! ### Power (R80) -/

/-- The effective ceiling C (R80). -/
def ceiling (c : CellState) (r : Running) (p : ProfileFields) : Nat :=
  match c with
  | .derated => min p.powerCeiling (r.rating * r.derate / 100)
  | .run | .hold | .tripped => min p.powerCeiling r.rating

/-- The aim S of a joint, in °C (R78): in RAMP the setpoint rounded down, in SOAK and FEED the target. -/
def aim (p : ProfileFields) (j : Joint) : Nat :=
  if j.state = .ramp then j.setpoint.getD 0 / 1000 else p.target

/-! ### Supply thresholds (R144) -/

/-- The four thresholds of a supply level, in V. -/
structure Thresholds where
  warningSet : Nat
  warningClear : Nat
  trip : Nat
  release : Nat
  deriving DecidableEq, Repr

/-- The thresholds in force (R144). -/
def SupplyLevel.thresholds : SupplyLevel → Thresholds
  | .l => { warningSet := 500, warningClear := 515, trip := 450, release := 480 }
  | .m => { warningSet := 520, warningClear := 535, trip := 470, release := 500 }
  | .h => { warningSet := 540, warningClear := 555, trip := 490, release := 520 }

/-! ### Lines -/

/-- ATTN (R175): high while a kind is pending at level 0, 1 or 2; low in the quiet period and in reset. -/
def State.attn (s : State) : Bool :=
  s.phase = .operating ∧ allKinds.any fun k => (s.events.get k).pending ∧ (s.events.get k).level ≠ 3

/-- CL_RDY (R158): high while the Cell Link's queue holds an answer. -/
def State.cellReady (s : State) : Bool := s.cellLink.answers ≠ []

/-- IL_TX (R168): the answer that is going out, none while the line is idle. -/
def State.transmitting (s : State) : Option (List Byte) := s.inspLink.answers.head?

/-- The rate of the Inspection Link, in bit times a second (R168). -/
def LinkSpeed.baud : LinkSpeed → Nat
  | .baud115200 => 115200 | .baud460800 => 460800

/-- The time that so many bytes occupy IL_TX, in µs: ten bit times for each (R168), rounded up (log 34). -/
def LinkSpeed.transmitTime (speed : LinkSpeed) (bytes : Nat) : Nat :=
  (bytes * 10 * 1000000 + speed.baud - 1) / speed.baud

/-- GCON (R156). -/
def Generator.gcon (g : Generator) : Bool := g.connected.isSome

/-- GSEL (R156): the connected head's number, 0 while GCON is low. -/
def Generator.gsel (g : Generator) : Nat := (g.connected.map Fin.val).getD 0

/-! ### Links (R165) -/

/-- The queue has a place for a new answer (R165): one place is kept for the completion of a request in progress. -/
def LinkState.hasPlace (l : LinkState) : Bool :=
  l.answers.length + (if l.inProgress.isSome then 1 else 0) < Config.queueMax

end Sys2Proof.Machine
end

