-- ==== Sys2Proof/Machine/Operands.lean ====
section
/-! DEFINITION. The operand forms: the coded bytes a request carries (R170), the range tests of a profile (R32) and
of a configuration record (R179), the classes of a reading (R121), and the layouts of the answers (R170, R172). -/

namespace Sys2Proof.Machine

/-! ### Coded bytes of a request (R170): none where the code tables do not list the value -/

/-- A head number, 0 to 7. -/
def headOf (b : Byte) : Option (Fin 8) := if h : b.toNat < 8 then some ⟨b.toNat, h⟩ else none

/-- A profile number, 0 to 31. -/
def profileNumberOf (b : Byte) : Option (Fin 32) := if h : b.toNat < 32 then some ⟨b.toNat, h⟩ else none

/-- An event kind code, 0 to 8. -/
def kindOf (b : Byte) : Option (Fin 9) := if h : b.toNat < 9 then some ⟨b.toNat, h⟩ else none

/-- An event level, 0 to 3. -/
def levelOf (b : Byte) : Option (Fin 4) := if h : b.toNat < 4 then some ⟨b.toNat, h⟩ else none

/-- A slot set, A 0 or B 1. -/
def setNameOf (b : Byte) : Option SetName := if b = 0 then some .a else if b = 1 then some .b else none

/-- A qualifier, ANY 0, RAMP 1 or HOLD 2. -/
def qualifierOf (b : Byte) : Option Qualifier :=
  if b = 0 then some .any else if b = 1 then some .ramp else if b = 2 then some .hold else none

/-- A verdict, ACCEPT 1, REWORK 2 or SCRAP 3. -/
def verdictOf (b : Byte) : Option Verdict :=
  if b = 1 then some .accept else if b = 2 then some .rework else if b = 3 then some .scrap else none

/-- An entry of a slot set or of the priority list: a head byte and a qualifier byte. -/
def entryOf (e : Byte × Byte) : Option SlotEntry :=
  match headOf e.1, qualifierOf e.2 with
  | some h, some q => some { head := h, qualifier := q }
  | _, _ => none

/-- A kind and its level. -/
def levelPairOf (e : Byte × Byte) : Option (Fin 9 × Fin 4) :=
  match kindOf e.1, levelOf e.2 with
  | some k, some l => some (k, l)
  | _, _ => none

/-- The lowest index whose element occurs earlier in the list. -/
def firstRepeat {α : Type} [DecidableEq α] (xs : List α) : Option Nat :=
  (List.range xs.length).find? fun n => (xs.take n).any fun y => some y = xs[n]?

/-! ### Keys (R11) -/

/-- A key agrees with a code at every digit set in the mask (R11). -/
def keyMatches (code mask k : Key) : Bool :=
  (k.serial ^^^ code.serial) &&& mask.serial = 0 ∧ (k.position ^^^ code.position) &&& mask.position = 0

/-- The code of a joint state (R170). -/
def JointState.code : JointState → Nat
  | .planned => 0 | .placed => 1 | .ramp => 2 | .soak => 3 | .feed => 4 | .cool => 5 | .done => 6 | .rejected => 7

/-- A state lies in a Find state set: bit n is set for state code n (R170). -/
def inStateSet (states : Byte) (js : JointState) : Bool := states.getLsbD js.code

/-! ### Profiles (R32) -/

/-- The sixteen fields from the words of a Write Profile, in field index order (R170). -/
def ProfileFields.ofWords (w : Vector Word16 16) : ProfileFields :=
  { target := (w.get 0).toNat, soakBand := (w.get 1).toNat, overshoot := (w.get 2).toNat, solidus := (w.get 3).toNat,
    rampRate := (w.get 4).toNat, soakTime := (w.get 5).toNat, kp := (w.get 6).toNat, ki := (w.get 7).toNat,
    powerCeiling := (w.get 8).toNat, maxEnergy := (w.get 9).toNat, maxRampTime := (w.get 10).toNat,
    feedLength := (w.get 11).toNat, feedRate := (w.get 12).toNat, coolTime := (w.get 13).toNat,
    tankMin := (w.get 14).toNat, tankMax := (w.get 15).toNat }

/-- The sixteen fields in field index order. -/
def ProfileFields.toList (p : ProfileFields) : List Nat :=
  [p.target, p.soakBand, p.overshoot, p.solidus, p.rampRate, p.soakTime, p.kp, p.ki, p.powerCeiling, p.maxEnergy,
   p.maxRampTime, p.feedLength, p.feedRate, p.coolTime, p.tankMin, p.tankMax]

/-- A number lies in a range, both ends inside. -/
def within (lo hi n : Nat) : Bool := lo ≤ n ∧ n ≤ hi

/-- The tests of R32, in field index order, each cross-field test at the field that carries it. -/
def ProfileFields.tests (p : ProfileFields) : List Bool :=
  [within 450 1050 p.target,
   within 5 50 p.soakBand,
   within 5 100 p.overshoot && p.target + p.overshoot ≤ 1100,
   within 400 1050 p.solidus && p.solidus ≤ p.target,
   within 10 1000 p.rampRate,
   within 0 10000 p.soakTime,
   within 0 500 p.kp,
   within 0 200 p.ki,
   within 100 30000 p.powerCeiling,
   within 100 60000 p.maxEnergy,
   within 500 30000 p.maxRampTime,
   within 0 500 p.feedLength,
   within 10 1000 p.feedRate,
   within 0 20000 p.coolTime,
   within 100 599 p.tankMin,
   within 101 600 p.tankMax && p.tankMin < p.tankMax]

/-- The index of the first field that fails R32. -/
def ProfileFields.offending (p : ProfileFields) : Option Nat := p.tests.findIdx? fun ok => !ok

/-- Every field passes R32. -/
def ProfileFields.passes (p : ProfileFields) : Bool := p.tests.all id

/-! ### Configuration (R179) -/

/-- The tests of the ten fields of R179, in field index order. -/
def configTests (r : ConfigRecord) : List Bool :=
  [within 1 8 r.headCount.toNat,
   within 5000 30000 r.rating.toNat && r.rating.toNat % 500 = 0,
   within 5 50 r.slotLength.toNat,
   r.derate.toNat = 25 || r.derate.toNat = 50 || r.derate.toNat = 75,
   within 0 2 r.supplyLevel.toNat,
   r.clampFilter.toNat = 4 || r.clampFilter.toNat = 16,
   within 1 255 r.flowMinimum.toNat,
   within 3 15 r.sampleLoss.toNat,
   within 0 1 r.linkSpeed.toNat,
   r.levels.toList.all fun l => l.toNat ≤ 3]

/-- The index of the first field out of range (R182). -/
def configOffending (r : ConfigRecord) : Option Nat := (configTests r).findIdx? fun ok => !ok

/-- Every field lies in its range (R180). -/
def configPasses (r : ConfigRecord) : Bool := (configTests r).all id

/-- The running values that a record in range gives (R180). -/
def Running.ofRecord (r : ConfigRecord) : Running :=
  { headCount := r.headCount.toNat, rating := r.rating.toNat, slotLength := r.slotLength.toNat,
    derate := r.derate.toNat,
    supplyLevel := if r.supplyLevel = 0 then .l else if r.supplyLevel = 1 then .m else .h,
    clampFilter := r.clampFilter.toNat, flowMinimum := r.flowMinimum.toNat, sampleLoss := r.sampleLoss.toNat,
    linkSpeed := if r.linkSpeed = 0 then .baud115200 else .baud460800,
    levels := r.levels.map fun l => Fin.ofNat 4 l.toNat }

/-- The code of a supply level (R179). -/
def SupplyLevel.code : SupplyLevel → Nat
  | .l => 0 | .m => 1 | .h => 2

/-- The code of a link speed (R179). -/
def LinkSpeed.code : LinkSpeed → Nat
  | .baud115200 => 0 | .baud460800 => 1

/-- The nineteen bytes of the running values (R184). -/
def Running.bytes (r : Running) : List Byte :=
  [byteOf r.headCount] ++ bytes2 r.rating ++
    [byteOf r.slotLength, byteOf r.derate, byteOf r.supplyLevel.code, byteOf r.clampFilter, byteOf r.flowMinimum,
     byteOf r.sampleLoss, byteOf r.linkSpeed.code] ++
    r.levels.toList.map fun l => byteOf l.val

/-! ### Readings (R121, R122) -/

/-- The class the receiver gives a reading (R121). -/
def classify (cls : ReadingClass) (temp : Nat) (parityOk : Bool) : Reading :=
  if !parityOk then .bad
  else match cls with
    | .valid => if within Config.tempMin Config.tempMax temp then .valid temp else .bad
    | .under => .under
    | .over => .over
    | .other => .bad

/-- The value with which a period's reading is accepted, none for a missed period (R122). -/
def acceptedValue : Option Reading → Option Nat
  | some (.valid x) => some x
  | some .under => some Config.tempMin
  | some .over => some Config.tempMax
  | some .bad | none => none

/-! ### Answers (R163, R169) -/

/-- The status of an answer (R169). -/
inductive Status where
  | ok | busy | state | range | notFound | duplicate | full | denied | empty | frame | unknown
  deriving DecidableEq, Repr

def Status.toByte : Status → Byte
  | .ok => 0x00 | .busy => 0x01 | .state => 0x02 | .range => 0x03 | .notFound => 0x04 | .duplicate => 0x05
  | .full => 0x06 | .denied => 0x07 | .empty => 0x08 | .frame => 0x09 | .unknown => 0x0A

/-- What a block answers: a status and a payload. -/
structure Reply where
  status : Status
  payload : List Byte
  deriving DecidableEq, Repr

/-- A refusal without payload (R163). -/
def refusal (st : Status) : Reply := { status := st, payload := [] }

/-- A refusal that names a list index or a field index, as one byte (R163). -/
def refusalAt (st : Status) (index : Nat) : Reply := { status := st, payload := [byteOf index] }

/-- An OK answer. -/
def okReply (payload : List Byte) : Reply := { status := .ok, payload := payload }

/-- An answer frame (R163, R170). -/
def answerFrame (st : Status) (tag : Byte) (payload : List Byte) : List Byte := frameBytes st.toByte tag payload

/-! ### Field encodings of the answers (R170, R172) -/

def boolByte (b : Bool) : Byte := if b then 1 else 0

/-- A field that may be absent and has no code for absent: a presence byte and the field, sent as 0 when absent (R172). -/
def optional (width : Nat) (bytes : Option (List Byte)) : List Byte :=
  match bytes with
  | some b => 1 :: b
  | none => 0 :: List.replicate width 0

/-- A list whose length varies: a count byte and then its entries (R172). -/
def counted (entries : List (List Byte)) : List Byte := byteOf entries.length :: entries.flatten

def RejectCause.code : RejectCause → Nat
  | .overheat => 1 | .slow => 2 | .energy => 3 | .clampLost => 4 | .earlyRelease => 5 | .sampleLoss => 6 | .coupling => 7
  | .coolant => 8 | .supply => 9 | .generator => 10 | .aborted => 11

def Verdict.code : Verdict → Nat
  | .accept => 1 | .rework => 2 | .scrap => 3

def ProfileStatus.code : ProfileStatus → Nat
  | .stored => 0 | .written => 1 | .lost => 2

def HeadState.code : HeadState → Nat
  | .off => 0 | .idle => 1 | .loaded => 2 | .heating => 3 | .cooling => 4 | .release => 5 | .fault => 6

def FaultCause.code : FaultCause → Nat
  | .flow => 1 | .sample => 2 | .tank => 3

def CellState.code : CellState → Nat
  | .hold => 0 | .run => 1 | .derated => 2 | .tripped => 3

/-- The trip causes: bit 0 SUPPLY, bit 1 GENERATOR (R172). -/
def Cell.causesCode (c : Cell) : Nat := (if c.causeSupply then 1 else 0) + (if c.causeGenerator then 2 else 0)

/-- The grant source of a slot; IDLE 4 where no head is granted (R172). -/
def sourceCode : Option Grant → Nat
  | some g => match g.source with
    | .scheduled => 0 | .priority => 1 | .group1 => 2 | .group2 => 3
  | none => 4

def Mark.code : Mark → Nat
  | .armed => 0 | .raised => 1

def ConfigStatus.code : ConfigStatus → Nat
  | .loaded => 0 | .written => 1 | .bad => 2

def Qualifier.code : Qualifier → Nat
  | .any => 0 | .ramp => 1 | .hold => 2

def SetName.code : SetName → Nat
  | .a => 0 | .b => 1

/-- The presence byte of a joint record (R170). -/
def Joint.presence (j : Joint) : Byte :=
  byteOf ((if j.head.isSome then 1 else 0) + (if j.lastTemp.isSome then 2 else 0) + (if j.peakTemp.isSome then 4 else 0)
    + (if j.setpoint.isSome then 8 else 0) + (if j.lastGrant.isSome then 16 else 0) + (if j.cause.isSome then 32 else 0)
    + (if j.verdict.isSome then 64 else 0))

/-- The 33 bytes of a record in a Lookup answer (R170), with the conversions of R4. -/
def Joint.bytes (slot nowMs : Nat) (j : Joint) : List Byte :=
  bytes2 slot ++ keyBytes j.key ++ [byteOf j.profile.val, byteOf j.state.code, j.presence,
    byteOf ((j.head.map Fin.val).getD 0), byteOf j.reheats] ++
  bytes2 (j.lastTemp.getD 0) ++ bytes2 (j.peakTemp.getD 0) ++ bytes2 (j.setpoint.getD 0 / 1000) ++
  bytes2 j.integral ++ bytes2 (j.energy / 1000) ++ bytes2 j.phaseElapsed ++ bytes2 j.soaked ++ bytes2 j.feedAcc ++
  bytes2 j.fillerFed ++ bytes2 ((j.lastGrant.map fun g => min Config.elapsedMax (nowMs - g)).getD 0) ++
  [byteOf ((j.cause.map RejectCause.code).getD 0), byteOf ((j.verdict.map Verdict.code).getD 0)]

/-- The live count and the mark state, as the answers of R9, R12, R26 and R28 carry them. -/
def State.countAndMark (s : State) : List Byte := bytes2 s.liveCount ++ [byteOf s.table.mark.code]

/-- The payload of a Read Profile answer (R37, R170). -/
def profileBytes (number : Fin 32) (p : Profile) : List Byte :=
  [byteOf number.val, boolByte p.valid, byteOf p.status.code] ++ p.fields.toList.flatMap bytes2

/-- The ms a cooling timer has still to run (R141, log 22). -/
def Head.coolingLeft (hd : Head) (now : Nat) : Option Nat := hd.coolingUntil.map fun e => (e - now + 999) / 1000

/-- The payload of a Read Head answer (R141, R172). -/
def Head.bytes (now : Nat) (hd : Head) : List Byte :=
  [byteOf hd.state.code] ++ optional 4 (hd.bound.map keyBytes) ++ [byteOf ((hd.faultCause.map FaultCause.code).getD 0)] ++
  counted (hd.window.map bytes2) ++ optional 2 (hd.temp.map bytes2) ++ [byteOf hd.missed] ++
  [boolByte hd.clampClosed, byteOf hd.clampCount] ++ optional 1 (hd.lastFlow.map fun n => [byteOf n]) ++ [byteOf hd.lowFlow] ++
  optional 4 (hd.lastTank.map bytes4) ++ [byteOf hd.tankMiss] ++ optional 2 ((hd.coolingLeft now).map bytes2) ++
  [byteOf hd.stepsWaiting]

def SlotEntry.bytes (e : SlotEntry) : List Byte := [byteOf e.head.val, byteOf e.qualifier.code]

/-- A current slot: its position, its head (0 when idle), its source and its cut mark (R172). -/
def CurrentSlot.bytes (c : CurrentSlot) : List Byte :=
  [byteOf c.position, byteOf ((c.grant.map fun g => g.head.val).getD 0), byteOf (sourceCode c.grant), boolByte c.cut]

/-- The members of a group and its pointer (R110, R172). -/
def RobinGroup.bytes (g : RobinGroup) : List Byte :=
  counted (g.members.map fun h => [byteOf h.val]) ++ optional 1 (g.pointer.map fun h => [byteOf h.val])

/-- The entries of a slot set. -/
def Scheduler.entries (sc : Scheduler) : SetName → List SlotEntry
  | .a => sc.setA
  | .b => sc.setB

/-- The payload of a Read Slots answer (R110, R172). -/
def Scheduler.bytes (sc : Scheduler) (set : SetName) : List Byte :=
  counted ((sc.entries set).map SlotEntry.bytes) ++ [byteOf sc.active.code] ++
  optional 1 (sc.switchTo.map fun n => [byteOf n.code]) ++ [byteOf sc.position] ++
  optional 4 (sc.current.map CurrentSlot.bytes) ++ counted (sc.priority.map SlotEntry.bytes) ++
  sc.group1.bytes ++ sc.group2.bytes

/-- The payload of a Read Cell answer (R154, R172). -/
def Cell.bytes (c : Cell) (level : SupplyLevel) : List Byte :=
  [byteOf c.state.code, boolByte c.warning, byteOf c.causesCode] ++ optional 2 (c.lastVolts.map bytes2) ++
  [boolByte c.warningLow, byteOf c.warningCount, boolByte c.tripBelow, byteOf c.tripCount, boolByte c.faultLine,
   boolByte c.clearFlag, byteOf level.code] ++
  bytes2 level.thresholds.warningSet ++ bytes2 level.thresholds.warningClear ++ bytes2 level.thresholds.trip ++
  bytes2 level.thresholds.release

/-- The pending kinds, level 0 first and 3 last, kinds of one level by code (R176). -/
def pendingKinds (ev : Vector EventEntry 9) : List (Fin 9) :=
  ([0, 1, 2, 3] : List (Fin 4)).flatMap fun l => allKinds.filter fun k => (ev.get k).pending ∧ (ev.get k).level = l

/-- The payload of a Read Events answer (R176). -/
def eventsBytes (ev : Vector EventEntry 9) (attn : Bool) : List Byte :=
  counted ((pendingKinds ev).map fun k => [byteOf k.val, byteOf (ev.get k).level.val, byteOf (ev.get k).count]) ++
  (allKinds.map fun k => byteOf (ev.get k).level.val) ++ [boolByte attn]

/-- The payload of a Read Config answer (R184): while the status is BAD the stored record is nineteen zeros. -/
def Configuration.bytes (c : Configuration) : List Byte :=
  [byteOf c.status.code] ++ (if c.status = .bad then List.replicate 19 0 else configRecordBytes c.stored) ++
  c.running.bytes ++ [boolByte c.defaultsFlag]

/-- The twelve digits of a demand code, the most significant first (R156). -/
def codeDigits (code : BitVec 12) : List Bool := (List.range 12).map fun n => code.getMsbD n

end Sys2Proof.Machine
end

