-- ==== Sys2Proof/Machine/Ops.lean ====
section
/-! DEFINITION. The operations that the rules of several blocks share: the passing of time, one head or one record,
raising an event, the generator lines, the answer queues, and the common effects the chapters cite by name (the cut of
an output R106, a rejection R60, a head fault R135, a heating start R49, a trip R147 ...). -/

namespace Sys2Proof.Machine

/-! ### Time (log 1) -/

/-- A command is taken: not before `t`, and a timed event not before it is due. Nothing has been driven by it yet. -/
def State.arrive (t due : Nat) (s : State) : State := { s with now := max s.now (max t due), driven := [] }

/-- A command of the part's operation: while the part is held in reset it has no effect (R181, R183). -/
def whileOutOfReset (f : State → State) (s : State) : Host.Outcome State Fault Refusal :=
  .next (if s.phase = .held then s else f s)

/-! ### One head, one record -/

def State.setHead (h : Fin 8) (hd : Head) (s : State) : State := { s with heads := s.heads.set h hd }

def State.modHead (h : Fin 8) (f : Head → Head) (s : State) : State := s.setHead h (f (s.head h))

/-- A change of the record that holds a key; the slots and every other record stay. -/
def State.modJoint (k : Key) (f : Joint → Joint) (s : State) : State :=
  { s with table := { s.table with records := s.table.records.map fun x => if x.2.key = k then (x.1, f x.2) else x } }

/-- A change of the record bound to a head; none where the head has no binding (R30). -/
def State.modBound (h : Fin 8) (f : Joint → Joint) (s : State) : State :=
  match (s.head h).bound with
  | some k => s.modJoint k f
  | none => s

/-- The profile of a head's bound record; none where the head has no bound record. -/
def State.boundProfile (s : State) (h : Fin 8) : Option Profile := (s.boundJoint h).map s.profileOf

/-! ### Events (R174) -/

/-- An entry after a raise: the flag set and the count raised, saturating at 255 (R174). -/
def EventEntry.raised (e : EventEntry) : EventEntry :=
  if e.pending then { e with count := min 255 (e.count + 1) } else { e with pending := true, count := 1 }

/-- A rule raises a kind (R174). -/
def State.raise (k : EventKind) (s : State) : State :=
  { s with events := s.events.set k.code (s.events.get k.code).raised }

/-! ### Output lines (R156) -/

def State.drive (a : LineAction) (s : State) : State := { s with driven := s.driven ++ [a] }

/-- The demand code presented to the inverter; it is sent each time it changes (R156). -/
def State.setCode (code : BitVec 12) (s : State) : State :=
  if s.gen.code = code then s
  else { s with gen := { s.gen with code := code } }.drive (.transfer (codeDigits code))

/-- GCON and GSEL: the head connected, or none. -/
def State.connect (head : Option (Fin 8)) (s : State) : State :=
  if s.gen.connected = head then s
  else { s with gen := { s.gen with connected := head } }.drive (.connect head)

/-- GEN. -/
def State.setEnable (high : Bool) (s : State) : State :=
  if s.gen.enable = high then s
  else { s with gen := { s.gen with enable := high } }.drive (.enable high)

def State.setTank (m : TankMeasure) (s : State) : State := { s with gen := { s.gen with tank := m } }

/-! ### Links (R158, R161, R165) -/

def State.setLink (l : Link) (x : LinkState) (s : State) : State :=
  match l with
  | .cell => { s with cellLink := x }
  | .inspection => { s with inspLink := x }

def State.setReceiver (l : Link) (r : Receiver) (s : State) : State := s.setLink l { s.link l with receiver := r }

def State.setInProgress (l : Link) (p : Option InProgress) (s : State) : State :=
  s.setLink l { s.link l with inProgress := p }

/-- When the front answer of the Inspection Link began to go out, after an answer has joined a queue: an answer that joins
an empty queue goes out at once (R168). -/
def State.txSinceAfter (l : Link) (s : State) : Option Nat :=
  if l = .inspection ∧ s.inspLink.answers = [] then some s.now else s.txSince

/-- An answer joins the end of a link's queue (R158). -/
def State.queueAnswer (l : Link) (frame : List Byte) (s : State) : State :=
  { s.setLink l { s.link l with answers := (s.link l).answers ++ [frame] } with txSince := s.txSinceAfter l }

/-- A bad frame is ended (R161): the receiver becomes WAITING, LINK ERROR is raised, and a FRAME answer with tag 0 is
made if the queue has a place for it (R165). -/
def State.endBadFrame (l : Link) (s : State) : State :=
  let s := (s.setReceiver l .waiting).raise .linkError
  if (s.link l).hasPlace then s.queueAnswer l (answerFrame .frame 0 []) else s

/-- What a block does with a request it is handed: the state it leaves and its answer, none for a request that takes
time (R164). -/
abbrev BlockOp := State → State × Option Reply

/-- A frame with a good check is judged (R162), the first step that applies deciding its fate. -/
def State.judgeFrame (l : Link) (tag : Byte) (code : Option RequestCode) (payloadLength : Nat) (op : BlockOp) (s : State) :
    State :=
  let s := s.setReceiver l .waiting
  if !(s.link l).hasPlace then s.raise .linkError
  else if (s.link l).inProgress.isSome then s.queueAnswer l (answerFrame .busy tag [])
  else match code with
  | none => s.queueAnswer l (answerFrame .unknown tag [])
  | some c =>
    if !c.permittedOn l then s.queueAnswer l (answerFrame .denied tag [])
    else if !c.lengthSuits payloadLength then (s.raise .linkError).queueAnswer l (answerFrame .frame 0 [])
    else match op s with
      | (s', some r) => s'.queueAnswer l (answerFrame r.status tag r.payload)
      | (s', none) => s'

/-- A frame with a good check completes at time `t`: in the quiet period its bytes are discarded (R158), otherwise it is
judged (R162). DESIGN CHOICE (log 4): a request's own command stands for the completion of its frame. -/
def frameCompletes (t : Nat) (l : Link) (tag : Byte) (code : Option RequestCode) (payloadLength : Nat) (op : BlockOp)
    (s : State) : State :=
  let s := s.arrive t 0
  if s.phase = .operating then s.judgeFrame l tag code payloadLength op else s

/-- The command of a request: its frame, with a payload of a length that suits it, completes. -/
def requestCommand (t : Nat) (l : Link) (tag : Byte) (code : RequestCode) (payload : List Byte) (op : BlockOp) (s : State) :
    Host.Outcome State Fault Refusal :=
  whileOutOfReset (frameCompletes t l tag (some code) payload.length op) s

/-! ### Energy and the cut of an output (R87, R89, R106) -/

/-- The grant account is closed: P × on-time is added to the record it names, saturating (R87). -/
def State.closeAccount (onTime : Nat) (s : State) : State :=
  match s.power.account with
  | none => s
  | some a =>
    { s with power := { s.power with account := none } }.modJoint a.joint fun j =>
      { j with energy := min Config.energyMax (j.energy + a.demand * onTime) }

/-- The output of the current slot is cut (R106): code 0, the switch opened, the slot recorded as cut, the account closed
with the whole ms since the guard end (R87), and the slot's measurement discarded (R132).
DESIGN CHOICE (log 32): a cut taken at the time of the slot end and before it has an on-time of slot length − 1, the whole
ms elapsed, although R87 says that a cut's on-time is less. -/
def State.cutOutput (s : State) : State :=
  match s.sched.current with
  | none => s
  | some c =>
    if c.grant.isSome ∧ !c.cut then
      let s := (s.setCode 0).connect none
      let s := { s with sched := { s.sched with current := some { c with cut := true } } }
      (s.setTank .off).closeAccount ((s.now - (s.power.account.map Account.since).getD s.now) / 1000)
    else s

/-- The head holds the current grant. -/
def State.grantedTo (s : State) (h : Fin 8) : Bool :=
  s.sched.current.any fun c => c.grant.any fun g => g.head = h

/-- The granted joint or head has stopped heating: the output is cut (R106). -/
def State.cutIfGranted (h : Fin 8) (s : State) : State := if s.grantedTo h then s.cutOutput else s

/-! ### The end of a heating (R60 to R65, R127, R135) -/

/-- A record becomes REJECTED with its cause and JOINT REJECTED is raised (R60 steps 1 and 2, R65). -/
def State.rejectJoint (k : Key) (c : RejectCause) (s : State) : State :=
  (s.modJoint k fun j => { j with state := .rejected, cause := some c }).raise .jointRejected

/-- The cooling timer of a COOLING head expires (R64). -/
def State.expireCooling (h : Fin 8) (s : State) : State :=
  let s' := s.modHead h fun hd => { hd with state := .release, coolingUntil := none }
  match s.boundJoint h with
  | some j => if j.state = .cool then (s'.modJoint j.key fun j => { j with state := .done }).raise .jointDone else s'
  | none => s'

/-- The head becomes COOLING with its timer loaded; a cool time of 0 expires at once (R61, R62). -/
def State.beginCooling (h : Fin 8) (coolTime : Nat) (s : State) : State :=
  let s := s.modHead h fun hd => { hd with state := .cooling, coolingUntil := some (s.now + coolTime * 1000) }
  if coolTime = 0 then s.expireCooling h else s

/-- A heating joint is rejected with a cause that sends its head to COOLING (R60, R62); a joint that is not heating is
left as it is (R68). -/
def State.rejectToCooling (h : Fin 8) (c : RejectCause) (s : State) : State :=
  match s.boundJoint h with
  | some j =>
    if j.state.heating then
      ((s.rejectJoint j.key c).cutIfGranted h).beginCooling h (s.profileOf j).fields.coolTime
    else s
  | none => s

/-- A binding is removed: the record's head field and the head's bound joint, in one event (R5); the timer stops. -/
def State.unbindHead (h : Fin 8) (st : HeadState) (s : State) : State :=
  (s.modBound h fun j => { j with head := none }).modHead h fun hd =>
    { hd with state := st, bound := none, coolingUntil := none }

/-- The clamp opens at a head (R127). -/
def State.clampOpens (h : Fin 8) (s : State) : State :=
  match (s.head h).state with
  | .heating =>
    match s.boundJoint h with
    | some j =>
      if j.state.heating then ((s.rejectJoint j.key .clampLost).cutIfGranted h).unbindHead h .idle else s.unbindHead h .idle
    | none => s.unbindHead h .idle
  | .cooling =>
    match s.boundJoint h with
    | some j => if j.state = .cool then (s.rejectJoint j.key .earlyRelease).unbindHead h .idle else s.unbindHead h .idle
    | none => s.unbindHead h .idle
  | .release => s.unbindHead h .idle
  | .off | .idle | .loaded | .fault => s

/-- The reject cause that belongs to a head fault (section 6.7). -/
def FaultCause.rejects : FaultCause → RejectCause
  | .flow => .coolant | .sample => .sampleLoss | .tank => .coupling

/-- What a head fault does to the bound record, before it is unbound (R135 step 3). -/
def State.faultJoint (h : Fin 8) (c : FaultCause) (s : State) : State :=
  match s.boundJoint h with
  | some j =>
    if j.state.heating ∨ j.state = .cool then s.rejectJoint j.key c.rejects
    else if j.state = .placed then s.modJoint j.key fun j => { j with state := .planned }
    else s
  | none => s

/-- A head fault (R135); at a head in FAULT or OFF it changes nothing (R136). -/
def State.headFault (h : Fin 8) (c : FaultCause) (s : State) : State :=
  if (s.head h).state = .fault ∨ (s.head h).state = .off then s
  else
    let s := s.modHead h fun hd => { hd with faultCause := some c }
    (((s.cutIfGranted h).faultJoint h c).unbindHead h .fault).raise .headFault

/-- A joint enters COOL (R61). -/
def State.enterCool (h : Fin 8) (coolTime : Nat) (s : State) : State :=
  ((s.modBound h fun j => { j with state := .cool, phaseElapsed := 0 }).cutIfGranted h).beginCooling h coolTime

/-! ### The start of a heating (R47 to R49) -/

/-- The five start conditions (R47). -/
def State.startReady (s : State) (h : Fin 8) : Bool :=
  (s.head h).state = .loaded ∧ ((s.boundProfile h).any fun p => p.valid) ∧ (s.head h).clampClosed ∧
  !(s.head h).flowLow s.config.running.flowMinimum ∧ s.cell.state.running

/-- The setpoint at a heating start, in m°C (R49). -/
def startSetpoint (target : Nat) (temp : Option Nat) : Nat :=
  match temp with
  | none => Config.coldSetpoint
  | some x => if target < x then target * 1000 else x * 1000

/-- Heating starts at a head (R49). -/
def State.startHeating (h : Fin 8) (target : Nat) (s : State) : State :=
  let s' := s.modBound h fun j =>
    { j with state := .ramp, setpoint := some (startSetpoint target (s.head h).temp), integral := 0, phaseElapsed := 0,
             soaked := 0, feedAcc := 0, fillerFed := 0, lastGrant := none }
  let s' := s'.modHead h fun hd => { hd with state := .heating, missed := 0, tankMiss := 0 }
  { s' with power := { s'.power with startRefs := s'.power.startRefs.set h (some s.nowMs) } }

/-- The start conditions are tested at a head, and its cycle starts if they hold (R47, R48). -/
def State.testStart (h : Fin 8) (s : State) : State :=
  if s.startReady h then s.startHeating h (((s.boundProfile h).map fun p => p.fields.target).getD 0) else s

/-! ### The scheduler's stop (R97, R112) -/

/-- A pending switch takes effect and SLOTS SWITCHED is raised (R112). -/
def State.applySwitch (s : State) : State :=
  match s.sched.switchTo with
  | none => s
  | some n => { s with sched := { s.sched with active := n, switchTo := none } }.raise .slotsSwitched

/-- The cell leaves RUN and DERATED (R97, R156): the running output is cut, the frame position returns to 0, a pending
switch takes effect, the current slot becomes absent; code 0 is loaded, then GCON falls, then GEN falls. -/
def State.stopScheduler (s : State) : State :=
  let s := s.cutOutput
  let s := (s.setCode 0).connect none
  let s := { s with sched := { s.sched with position := 0, current := none, startDue := none } }
  (s.applySwitch.setTank .off).setEnable false

/-! ### Trips and recovery (R147 to R149, R153) -/

/-- Every heating joint is rejected with a cause, once per joint (R147 step 1, R153 step 1). -/
def State.rejectAll (c : RejectCause) (s : State) : State := allHeads.foldl (fun s h => s.rejectToCooling h c) s

/-- The trip causes after one more (R148). -/
def Cell.addCause (supply : Bool) (c : Cell) : Cell :=
  if supply then { c with causeSupply := true } else { c with causeGenerator := true }

/-- A trip with cause SUPPLY or GENERATOR (R147, R148): the heating joints are rejected, the cell is TRIPPED with the
cause added, a running scheduler stops, CELL TRIPPED is raised. -/
def State.trip (supply : Bool) (s : State) : State :=
  let wasRunning := s.cell.state.running
  let s := if s.cell.state = .tripped then s else s.rejectAll (if supply then .supply else .generator)
  let s := { s with cell := { s.cell.addCause supply with state := .tripped } }
  let s := if wasRunning then s.stopScheduler else s
  s.raise .cellTripped

/-- The recovery conditions (R149). -/
def Cell.mayRecover (c : Cell) : Bool :=
  c.state = .tripped ∧ !c.tripBelow ∧ !c.faultLine ∧ (!c.causeGenerator ∨ c.clearFlag)

/-- The recovery test (R149). -/
def State.testRecovery (s : State) : State :=
  if s.cell.mayRecover then
    { s with cell := { s.cell with state := .hold, causeSupply := false, causeGenerator := false, clearFlag := false } }.raise
      .cellRecovered
  else s

end Sys2Proof.Machine
end

