-- ==== Sys2Proof/Machine/Demand.lean ====
section
/-! DEFINITION. The Power Computation Unit (chapter 4) and the tank timing of the Generator Interface (section 6.5):
GUARD_END, TANK_MEASUREMENT_BEGIN and TANK_MEASUREMENT_END. -/

namespace Sys2Proof.Machine

/-! ### The arithmetic of a guard end (R78 to R85) -/

/-- A value clamped to [0, c] (00 section 3.2). -/
def clampTo (c x : Int) : Int := max 0 (min c x)

/-- The interval Δ in ms (R79): since the last grant of the cycle, or since the head's start reference; at most 1000. -/
def interval (nowMs : Nat) (lastGrant startRef : Option Nat) : Nat :=
  min Config.intervalMax (nowMs - (lastGrant.getD (startRef.getD nowMs)))

/-- The integral step ΔI (R81): Ki × E × Δ / 1000, truncated toward zero. -/
def integralStep (ki : Nat) (e : Int) (delta : Nat) : Int := Int.tdiv (ki * e * delta) 1000

/-- The integral step after the anti-windup test (R82). -/
def appliedStep (kp : Nat) (e : Int) (old c : Nat) (step : Int) : Int :=
  if 0 < step ∧ (c : Int) ≤ kp * e + old then 0 else step

/-- The new integral (R83). -/
def newIntegral (p : ProfileFields) (e : Int) (delta old c : Nat) : Nat :=
  (clampTo c (old + appliedStep p.kp e old c (integralStep p.ki e delta))).toNat

/-- The demand P in W (R84). -/
def demand (p : ProfileFields) (e : Int) (integral c : Nat) : Nat := (clampTo c (p.kp * e + integral)).toNat

/-- The demand code Dc (R85): P as a fraction of the rating, scaled to 0..4095, rounded half up. -/
def demandCode (p rating : Nat) : Nat := (p * 4095 + rating / 2) / rating

/-! ### The guard end (R75, R76) -/

/-- The demand is computed for the joint bound to the granted head, whose temperature is `temp` (R78 to R85): the
integral and the last grant time are written, the account is opened, and the code goes to the inverter. -/
def State.computeDemand (h : Fin 8) (j : Joint) (temp : Nat) (s : State) : State :=
  let p := (s.profileOf j).fields
  let e : Int := (aim p j : Int) - temp
  let c := ceiling s.cell.state s.config.running p
  let i := newIntegral p e (interval s.nowMs j.lastGrant (s.power.startRefs.get h)) j.integral c
  let d := demand p e i c
  let dc := demandCode d s.config.running.rating
  let s := s.modJoint j.key fun j => { j with integral := i, lastGrant := some s.nowMs }
  let s := { s with power := { s.power with
    account := some { head := h, joint := j.key, demand := d, code := dc, since := s.now } } }
  (s.setCode (BitVec.ofNat 12 dc)).setTank (if dc = 0 then .off else .armed)

/-- The work of the guard end of a granted slot: the demand is computed if the head is HEATING, its joint in RAMP, SOAK
or FEED, and the cell RUN or DERATED (R75); T is then present (R86, log 30). -/
def State.guardWork (h : Fin 8) (s : State) : State :=
  match s.boundJoint h, (s.head h).temp with
  | some j, some temp =>
    if (s.head h).state = .heating ∧ j.state.heating ∧ s.cell.state.running then s.computeDemand h j temp else s
  | _, _ => s

/-- GUARD_END (R75, R96): 1 ms after the slot start; nothing is computed in an idle slot or one cut in its guard. -/
def guardEnd (t : Nat) (s : State) : State :=
  match s.sched.current with
  | none => s.arrive t 0
  | some c =>
    if c.guardEnded then s.arrive t 0
    else
      let s := s.arrive t (c.start + Config.guardTime)
      let s := { s with sched := { s.sched with current := some { c with guardEnded := true } } }
      match c.grant with
      | none => s
      | some g => if c.cut then s else s.guardWork g.head

def execGuardEnd (t : Nat) (s : State) : Host.Outcome State Fault Refusal := whileOutOfReset (guardEnd t) s

/-! ### The tank measurement (R132) -/

/-- TANK_MEASUREMENT_BEGIN (R132): the first rising edge of the tank signal after the guard end. -/
def tankMeasurementBegin (t : Nat) (s : State) : State :=
  let s := s.arrive t 0
  match s.gen.tank with
  | .armed => s.setTank (.timing s.now)
  | .off | .timing _ | .ended _ => s

def execTankMeasurementBegin (t : Nat) (s : State) : Host.Outcome State Fault Refusal :=
  whileOutOfReset (tankMeasurementBegin t) s

/-- The frequency of 16 periods that took `micros` µs, in Hz, rounded down (R132); a free value for 0 µs (log 14). -/
def tankFrequency (micros : Nat) : Nat := if micros = 0 then Config.tankFrequencyOfZero else 16000000 / micros

/-- TANK_MEASUREMENT_END (R132): the sixteenth rising edge after the first; the frequency is held for the slot. -/
def tankMeasurementEnd (t : Nat) (s : State) : State :=
  let s := s.arrive t 0
  match s.gen.tank with
  | .timing since => s.setTank (.ended (tankFrequency (s.now - since)))
  | .off | .armed | .ended _ => s

def execTankMeasurementEnd (t : Nat) (s : State) : Host.Outcome State Fault Refusal :=
  whileOutOfReset (tankMeasurementEnd t) s

end Sys2Proof.Machine
end

