-- ==== Sys2Proof/Machine/CellControl.lean ====
section
/-! DEFINITION. The Supply Monitor and Cell Control (chapter 7): DC_LINK_SAMPLE, FAULT_LINE_SAMPLE and the cell requests. -/

namespace Sys2Proof.Machine

/-! ### The DC link (R144, R145) -/

/-- A run count after one more sample on its new side, and whether the run of four is complete (R144). -/
def runAfter (onNewSide : Bool) (count : Nat) : Nat × Bool :=
  if onNewSide then (if 4 ≤ count + 1 then (0, true) else (count + 1, false)) else (0, false)

/-- The cell record after a warning set (R145). -/
def Cell.afterWarningSet (c : Cell) : Cell :=
  { c with warning := true, state := if c.state = .run then .derated else c.state }

/-- The cell record after a warning clear (R145). -/
def Cell.afterWarningClear (c : Cell) : Cell :=
  { c with warning := false, state := if c.state = .derated then .run else c.state }

/-- A warning set (R145): the flag goes up, RUN becomes DERATED, SUPPLY WARNING is raised. -/
def State.warningSet (s : State) : State :=
  { s with cell := s.cell.afterWarningSet }.raise .supplyWarning

/-- A warning clear (R145): the flag goes down, DERATED becomes RUN, SUPPLY WARNING is raised. -/
def State.warningClear (s : State) : State :=
  { s with cell := s.cell.afterWarningClear }.raise .supplyWarning

/-- A sample is judged against the warning pair (R144). -/
def State.judgeWarning (v : Nat) (s : State) : State :=
  let th := s.config.running.supplyLevel.thresholds
  let x := runAfter (if s.cell.warningLow then th.warningClear ≤ v else v < th.warningSet) s.cell.warningCount
  let s' := { s with cell := { s.cell with warningCount := x.1 } }
  if x.2 then
    if s.cell.warningLow then { s' with cell := { s'.cell with warningLow := false } }.warningClear
    else { s' with cell := { s'.cell with warningLow := true } }.warningSet
  else s'

/-- A sample is judged against the trip pair (R144). -/
def State.judgeTrip (v : Nat) (s : State) : State :=
  let th := s.config.running.supplyLevel.thresholds
  let x := runAfter (if s.cell.tripBelow then th.release ≤ v else v < th.trip) s.cell.tripCount
  let s' := { s with cell := { s.cell with tripCount := x.1 } }
  if x.2 then
    if s.cell.tripBelow then { s' with cell := { s'.cell with tripBelow := false } }.testRecovery
    else { s' with cell := { s'.cell with tripBelow := true } }.trip true
  else s'

/-- DC_LINK_SAMPLE (R144): every 1 ms the input is converted to whole V, rounded down, and judged against both pairs; where
both runs complete, either judgement may come first. -/
def dcLinkSample (t : Nat) (millivolts : Fin 1023001) (warningFirst : Bool) (s : State) : State :=
  let s := s.arrive t s.cell.voltsDue
  let v := millivolts.val / 1000
  let s := { s with cell := { s.cell with lastVolts := some v, voltsDue := s.now + Config.sampleTime } }
  if warningFirst then (s.judgeWarning v).judgeTrip v else (s.judgeTrip v).judgeWarning v

def execDcLinkSample (t : Nat) (millivolts : Fin 1023001) (warningFirst : Bool) (s : State) :
    Host.Outcome State Fault Refusal :=
  whileOutOfReset (dcLinkSample t millivolts warningFirst) s

/-! ### The inverter fault line (R146) -/

/-- FAULT_LINE_SAMPLE (R146): every 1 ms GFLT_N is sampled; a low level is ASSERTED. An assertion trips the cell GENERATOR
and clears the generator clear flag; a deassertion makes the recovery test. -/
def faultLineSample (t : Nat) (low : Bool) (s : State) : State :=
  let s := s.arrive t s.cell.faultLineDue
  let was := s.cell.faultLine
  let s := { s with cell := { s.cell with faultLine := low, faultLineDue := s.now + Config.sampleTime } }
  if low = was then s
  else if low then { s with cell := { s.cell with clearFlag := false } }.trip false
  else s.testRecovery

def execFaultLineSample (t : Nat) (low : Bool) (s : State) : Host.Outcome State Fault Refusal :=
  whileOutOfReset (faultLineSample t low) s

/-! ### Start (R151) -/

/-- Every LOADED head is tested against the start conditions (R48). -/
def State.testAllStarts (s : State) : State := allHeads.foldl (fun s h => s.testStart h) s

/-- The heads that a Start starts: those on which the start conditions hold once the cell runs (R151). -/
def State.readyHeads (s : State) : List (Fin 8) := allHeads.filter fun h => s.startReady h

/-- The cell record after a Start: DERATED if the warning flag is up, RUN if it is down (R151). -/
def Cell.started (c : Cell) : Cell := { c with state := if c.warning then .derated else .run }

/-- A Start taken from HOLD (R151): the state, GEN, the start conditions of every LOADED head, and the scheduler set
running at position 0, its first slot start due now. -/
def State.startCell (s : State) : State :=
  let s := { s with cell := s.cell.started }
  let s := (s.setEnable true).testAllStarts
  { s with sched := { s.sched with position := 0, startDue := some s.now } }

/-- The heads started by a Start taken from HOLD. -/
def State.startedHeads (s : State) : List (Fin 8) :=
  { s with cell := s.cell.started }.readyHeads

def startRequest : BlockOp := fun s =>
  match s.cell.state with
  | .tripped => (s, some (refusal .state))
  | .run | .derated => (s, some (okReply [byteOf s.cell.state.code, 0]))
  | .hold =>
    if s.sched.entries s.sched.active = [] then (s, some (refusal .empty))
    else
      let s' := s.startCell
      (s', some (okReply [byteOf s'.cell.state.code, byteOf s.startedHeads.length]))

def execStart (t : Nat) (l : Link) (tag : Byte) (s : State) : Host.Outcome State Fault Refusal :=
  requestCommand t l tag .start [] startRequest s

/-! ### Stop (R152) -/

/-- The cell leaves RUN or DERATED for HOLD and the scheduler stops (R152, R153). -/
def State.toHold (s : State) : State := { s with cell := { s.cell with state := .hold } }.stopScheduler

def stopRequest : BlockOp := fun s =>
  match s.cell.state with
  | .tripped => (s, some (refusal .state))
  | .hold => (s, some (okReply []))
  | .run | .derated =>
    if allHeads.any fun h => (s.head h).state = .heating then (s, some (refusal .busy))
    else (s.toHold, some (okReply []))

def execStop (t : Nat) (l : Link) (tag : Byte) (s : State) : Host.Outcome State Fault Refusal :=
  requestCommand t l tag .stop [] stopRequest s

/-! ### Halt All (R153) -/

/-- The heads whose joint is heating. -/
def State.heatingHeads (s : State) : List (Fin 8) :=
  allHeads.filter fun h => (s.boundJoint h).any fun j => j.state.heating

def haltAllRequest : BlockOp := fun s =>
  let n := s.heatingHeads.length
  let s' := s.rejectAll .aborted
  let s' := if s'.cell.state.running then s'.toHold else s'
  (s', some (okReply [byteOf n, byteOf s'.cell.state.code]))

def execHaltAll (t : Nat) (l : Link) (tag : Byte) (s : State) : Host.Outcome State Fault Refusal :=
  requestCommand t l tag .haltAll [] haltAllRequest s

/-! ### Clear Trip (R150) -/

def clearTripRequest : BlockOp := fun s =>
  if s.cell.state ≠ .tripped ∨ s.cell.faultLine then (s, some (refusal .state))
  else
    let s' := { s with cell := { s.cell with clearFlag := true } }.testRecovery
    (s', some (okReply [byteOf s'.cell.state.code, byteOf s'.cell.causesCode]))

def execClearTrip (t : Nat) (l : Link) (tag : Byte) (s : State) : Host.Outcome State Fault Refusal :=
  requestCommand t l tag .clearTrip [] clearTripRequest s

/-! ### Read Cell (R154) -/

def readCellRequest : BlockOp := fun s => (s, some (okReply (s.cell.bytes s.config.running.supplyLevel)))

def execReadCell (t : Nat) (l : Link) (tag : Byte) (s : State) : Host.Outcome State Fault Refusal :=
  requestCommand t l tag .readCell [] readCellRequest s

end Sys2Proof.Machine
end

