-- ==== Sys2Proof/Machine/ConfigRecord.lean ====
section
/-! DEFINITION. The Configuration Record's requests (chapter 10): WRITE_CONFIG and its completion, READ_CONFIG, IDENTIFY. -/

namespace Sys2Proof.Machine

/-! ### Write Config (R182) -/

def writeConfigRequest (l : Link) (tag : Byte) (r : ConfigRecord) : BlockOp := fun s =>
  match configOffending r with
  | some n => (s, some (refusalAt .range n))
  | none =>
    if s.cell.state ≠ .hold then (s, some (refusal .state))
    else
      ({ s with config := { s.config with write := some { record := r, since := s.now } } }.setInProgress l
        (some { request := .writeConfig, tag := tag }), none)

def execWriteConfig (t : Nat) (l : Link) (tag : Byte) (r : ConfigRecord) (s : State) : Host.Outcome State Fault Refusal :=
  requestCommand t l tag .writeConfig (configRecordBytes r) (writeConfigRequest l tag r) s

/-- WRITE_CONFIG_COMPLETE (R182, R164): at the end of the 5 ms the record and its check are whole, the status becomes
WRITTEN, the link's request in progress becomes absent, and the OK answer with the saved tag is made. -/
def writeConfigComplete (t : Nat) (s : State) : State :=
  match s.config.write, s.cellLink.inProgress with
  | some w, some p =>
    let s := s.arrive t (w.since + Config.configWriteTime)
    let s := { s with config := { s.config with stored := w.record, checkAgrees := true, status := .written, write := none } }
    (s.setInProgress .cell none).queueAnswer .cell (answerFrame .ok p.tag [])
  | _, _ => s.arrive t 0

def execWriteConfigComplete (t : Nat) (s : State) : Host.Outcome State Fault Refusal :=
  whileOutOfReset (writeConfigComplete t) s

/-! ### Read Config and Identify (R184, R185) -/

def readConfigRequest : BlockOp := fun s => (s, some (okReply s.config.bytes))

def execReadConfig (t : Nat) (l : Link) (tag : Byte) (s : State) : Host.Outcome State Fault Refusal :=
  requestCommand t l tag .readConfig [] readConfigRequest s

/-- The part code, the revision and the defaults flag (R185). -/
def identifyRequest : BlockOp := fun s => (s, some (okReply [0x0B, 0x28, 0x01, boolByte s.config.defaultsFlag]))

def execIdentify (t : Nat) (l : Link) (tag : Byte) (s : State) : Host.Outcome State Fault Refusal :=
  requestCommand t l tag .identify [] identifyRequest s

end Sys2Proof.Machine
end

