-- ==== Sys2Proof/Machine/Events.lean ====
section
/-! DEFINITION. The Event Unit's requests (chapter 9): READ_EVENTS, ACKNOWLEDGE_EVENTS, SET_LEVELS. -/

namespace Sys2Proof.Machine

/-! ### Read Events (R176) -/

def readEventsRequest : BlockOp := fun s => (s, some (okReply (eventsBytes s.events s.attn)))

def execReadEvents (t : Nat) (l : Link) (tag : Byte) (s : State) : Host.Outcome State Fault Refusal :=
  requestCommand t l tag .readEvents [] readEventsRequest s

/-! ### Acknowledge Events (R177) -/

/-- A kind's flag is cleared and its count set to 0 (R177). -/
def State.clearKind (k : Fin 9) (s : State) : State :=
  { s with events := s.events.set k { s.events.get k with pending := false, count := 0 } }

def acknowledgeEventsRequest (kinds : List Byte) : BlockOp := fun s =>
  match kinds.findIdx? fun b => (kindOf b).isNone with
  | some n => (s, some (refusalAt .range n))
  | none =>
    let s' := (kinds.filterMap kindOf).foldl (fun s k => s.clearKind k) s
    (s', some (okReply [boolByte s'.attn]))

def execAcknowledgeEvents (t : Nat) (l : Link) (tag : Byte) (kinds : List Byte) (s : State) :
    Host.Outcome State Fault Refusal :=
  requestCommand t l tag .acknowledgeEvents kinds (acknowledgeEventsRequest kinds) s

/-! ### Set Levels (R178) -/

/-- A kind takes a new running level (R178). -/
def State.setLevel (k : Fin 9) (level : Fin 4) (s : State) : State :=
  { s with events := s.events.set k { s.events.get k with level := level } }

/-- The first offending pair of a Set Levels (R178): its code above 8, its level above 3, or its code in an earlier pair. -/
def firstBadLevel (pairs : List (Byte × Byte)) : Option Nat :=
  (List.range pairs.length).find? fun n =>
    (pairs[n]?.any fun e => (levelPairOf e).isNone) ||
      (pairs.take n).any fun e => some e.1 = pairs[n]?.map Prod.fst

def setLevelsRequest (pairs : List (Byte × Byte)) : BlockOp := fun s =>
  match firstBadLevel pairs with
  | some n => (s, some (refusalAt .range n))
  | none =>
    let s' := (pairs.filterMap levelPairOf).foldl (fun s x => s.setLevel x.1 x.2) s
    (s', some (okReply [boolByte s'.attn]))

def execSetLevels (t : Nat) (l : Link) (tag : Byte) (pairs : List (Byte × Byte)) (s : State) :
    Host.Outcome State Fault Refusal :=
  requestCommand t l tag .setLevels (pairBytes pairs) (setLevelsRequest pairs) s

end Sys2Proof.Machine
end

