-- ==== Sys2Proof/Machine/Heads.lean ====
section
/-! DEFINITION. The Head Channels (chapter 6): READING_RECEIVED, FLOW_PULSE, FLOW_WINDOW_CLOSE, FEEDER_PULSE and the four
head requests. -/

namespace Sys2Proof.Machine

/-! ### Readings (R121) -/

/-- READING_RECEIVED (R121): a reading completely received within the running period becomes the kept reading; one that
was still being received at the last close is discarded. A head in OFF takes no readings (R120).
DESIGN CHOICE (log 36): a reading received after Enable Head and before the next period close is kept, and that close takes it,
though R138 has the channel take readings from the next close on. -/
def readingReceived (t : Nat) (h : Fin 8) (cls : ReadingClass) (temp : Nat) (parityOk spansClose : Bool) (s : State) : State :=
  let s := s.arrive t 0
  if (s.head h).state = .off ∨ spansClose then s
  else s.modHead h fun hd => { hd with kept := some (classify cls temp parityOk) }

def execReadingReceived (t : Nat) (h : Fin 8) (cls : ReadingClass) (temp : Nat) (parityOk spansClose : Bool) (s : State) :
    Host.Outcome State Fault Refusal :=
  whileOutOfReset (readingReceived t h cls temp parityOk spansClose) s

/-! ### The feeder drive (R134) -/

/-- FEEDER_PULSE (R134): one waiting step is issued as a pulse. -/
def feederPulse (t : Nat) (h : Fin 8) (s : State) : State :=
  let s := s.arrive t 0
  if 0 < (s.head h).stepsWaiting then
    (s.modHead h fun hd => { hd with stepsWaiting := hd.stepsWaiting - 1 }).drive (.feederPulse h)
  else s

def execFeederPulse (t : Nat) (h : Fin 8) (s : State) : Host.Outcome State Fault Refusal :=
  whileOutOfReset (feederPulse t h) s

/-! ### Coolant flow (R130, R131) -/

/-- FLOW_PULSE (R130): a rising edge is counted in the open window, saturating at 255; not at a head in OFF (R120).
DESIGN CHOICE (log 36): counting begins at Enable Head, as R130 has it, and not at the next period close, as R138 has it. -/
def flowPulse (t : Nat) (h : Fin 8) (s : State) : State :=
  let s := s.arrive t 0
  if (s.head h).state = .off then s
  else s.modHead h fun hd => { hd with flowPulses := min 255 (hd.flowPulses + 1) }

def execFlowPulse (t : Nat) (h : Fin 8) (s : State) : Host.Outcome State Fault Refusal :=
  whileOutOfReset (flowPulse t h) s

/-- A head after its open flow window has closed, the next opening at once (R130). -/
def Head.closeFlowWindow (now flowMinimum : Nat) (hd : Head) : Head :=
  { hd with lastFlow := some hd.flowPulses,
            lowFlow := if hd.flowPulses < flowMinimum then min 2 (hd.lowFlow + 1) else 0,
            flowPulses := 0, flowOpened := now }

/-- FLOW_WINDOW_CLOSE (R130, R131): 100 ms after it opened a window is judged; two low windows fault a working head, a
good window tests the start conditions of a LOADED one. A head in OFF closes no windows (R120). -/
def flowWindowClose (t : Nat) (h : Fin 8) (s : State) : State :=
  if (s.head h).state = .off then s.arrive t 0
  else
    let s := s.arrive t ((s.head h).flowOpened + Config.flowWindowTime)
    let s := s.modHead h (Head.closeFlowWindow s.now s.config.running.flowMinimum)
    if (s.head h).lowFlow = 2 then s.headFault h .flow
    else if !(s.head h).flowLow s.config.running.flowMinimum then s.testStart h
    else s

def execFlowWindowClose (t : Nat) (h : Fin 8) (s : State) : Host.Outcome State Fault Refusal :=
  whileOutOfReset (flowWindowClose t h) s

/-! ### Enable Head (R138) -/

/-- A channel starts anew (R138), its first flow window open from now. DESIGN CHOICE (log 36): what its inputs bring before the
next period close is kept and counted. -/
def Head.enabled (now : Nat) (hd : Head) : Head :=
  { hd with state := .idle, faultCause := none, window := [], missed := 0, clampClosed := false, clampCount := 0,
            lastFlow := none, lowFlow := 0, lastTank := none, tankMiss := 0, coolingUntil := none, stepsWaiting := 0,
            kept := none, flowPulses := 0, flowOpened := now }

def enableHeadRequest (head : Byte) : BlockOp := fun s =>
  match headOf head with
  | none => (s, some (refusal .range))
  | some h =>
    if s.config.running.headCount ≤ h.val then (s, some (refusal .range))
    else if (s.head h).state ≠ .off then (s, some (refusal .state))
    else (s.modHead h (Head.enabled s.now), some (okReply []))

def execEnableHead (t : Nat) (l : Link) (tag : Byte) (head : Byte) (s : State) : Host.Outcome State Fault Refusal :=
  requestCommand t l tag .enableHead [head] (enableHeadRequest head) s

/-! ### Disable Head (R139) -/

def disableHeadRequest (head : Byte) : BlockOp := fun s =>
  match headOf head with
  | none => (s, some (refusal .range))
  | some h =>
    if ((s.head h).state ≠ .idle ∧ (s.head h).state ≠ .fault) ∨ 0 < (s.head h).stepsWaiting then (s, some (refusal .state))
    else (s.modHead h fun hd => { hd with state := .off, faultCause := none }, some (okReply []))

def execDisableHead (t : Nat) (l : Link) (tag : Byte) (head : Byte) (s : State) : Host.Outcome State Fault Refusal :=
  requestCommand t l tag .disableHead [head] (disableHeadRequest head) s

/-! ### Clear Fault (R140) -/

def clearFaultRequest (head : Byte) : BlockOp := fun s =>
  match headOf head with
  | none => (s, some (refusal .range))
  | some h =>
    if (s.head h).state ≠ .fault ∨ (s.head h).flowLow s.config.running.flowMinimum then (s, some (refusal .state))
    else (s.modHead h fun hd => { hd with state := .idle, faultCause := none, missed := 0, tankMiss := 0 },
      some (okReply []))

def execClearFault (t : Nat) (l : Link) (tag : Byte) (head : Byte) (s : State) : Host.Outcome State Fault Refusal :=
  requestCommand t l tag .clearFault [head] (clearFaultRequest head) s

/-! ### Read Head (R141) -/

def readHeadRequest (head : Byte) : BlockOp := fun s =>
  match headOf head with
  | none => (s, some (refusal .range))
  | some h => (s, some (okReply ((s.head h).bytes s.now)))

def execReadHead (t : Nat) (l : Link) (tag : Byte) (head : Byte) (s : State) : Host.Outcome State Fault Refusal :=
  requestCommand t l tag .readHead [head] (readHeadRequest head) s

end Sys2Proof.Machine
end

