-- ==== Sys2Proof/Machine/HeatCycle.lean ====
section
/-! DEFINITION. The Heat Cycle Unit and the period close that carries it (chapter 3; the channel's part of a close in
sections 6.2 and 6.3): PERIOD_CLOSE, COOLING_TIMER_EXPIRY and ABORT. -/

namespace Sys2Proof.Machine

/-! ### The channel's part of a close (R122 to R126) -/

/-- The window after an accepted reading: the last four (R123). -/
def pushReading (w : List Nat) (x : Nat) : List Nat := (w ++ [x]).drop (w.length + 1 - 4)

/-- A head after the reading of a period has been handled (R122 to R124). -/
def Head.takeReading (accepted : Option Nat) (hd : Head) : Head :=
  match accepted with
  | some x => { hd with window := pushReading hd.window x, missed := 0 }
  | none => { hd with missed := min 15 (hd.missed + 1) }

/-- A bound record after an accepted reading (R125). -/
def Joint.seeReading (x : Nat) (j : Joint) : Joint :=
  { j with lastTemp := some x, peakTemp := some (max x (j.peakTemp.getD x)) }

/-- The reading of a period is handled at a head (R122). -/
def State.takeReading (h : Fin 8) (accepted : Option Nat) (s : State) : State :=
  let s := s.modHead h (Head.takeReading accepted)
  match accepted with
  | some x => s.modBound h (Joint.seeReading x)
  | none => s

/-- The steps still waiting are issued by the end of the period that follows their close (R134, log 18). -/
def State.issueSteps (h : Fin 8) (s : State) : State :=
  { s.modHead h fun hd => { hd with stepsWaiting := 0 } with
      driven := s.driven ++ List.replicate (s.head h).stepsWaiting (.feederPulse h) }

/-- The clamp filter after one sample (R126): the head, and whether the filtered state flipped. -/
def Head.sampleClamp (high : Bool) (filter : Nat) (hd : Head) : Head × Bool :=
  if high = hd.clampClosed then ({ hd with clampCount := 0 }, false)
  else if filter ≤ hd.clampCount + 1 then ({ hd with clampClosed := high, clampCount := 0 }, true)
  else ({ hd with clampCount := hd.clampCount + 1 }, false)

/-- The clamp is sampled, after the rest of the work of the close, and a flip acts on the head (R126 to R128). -/
def State.sampleClamp (h : Fin 8) (high : Bool) (s : State) : State :=
  let x := (s.head h).sampleClamp high s.config.running.clampFilter
  let s := s.setHead h x.1
  if x.2 then (if high then s.testStart h else s.clampOpens h) else s

/-! ### The phases (R51 to R61) -/

/-- Phase elapsed after one period (R51). -/
def elapsedAfter (n : Nat) : Nat := min Config.elapsedMax (n + 2)

/-- SOAK ends: FEED if the profile feeds wire, COOL otherwise (R57). -/
def State.endSoak (h : Fin 8) (p : ProfileFields) (s : State) : State :=
  if 0 < p.feedLength then s.modBound h fun j => { j with state := .feed, phaseElapsed := 0 }
  else s.enterCool h p.coolTime

/-- RAMP ends: the joint enters SOAK, and passes on at once if the soak time is 0 (R55, R57). -/
def State.enterSoak (h : Fin 8) (p : ProfileFields) (s : State) : State :=
  let s := s.modBound h fun j => { j with state := .soak, soaked := 0, phaseElapsed := 0 }
  if p.soakTime = 0 then s.endSoak h p else s

/-- The setpoint after one close in RAMP (R53). -/
def rampSetpoint (p : ProfileFields) (setpoint : Nat) : Nat := min (setpoint + p.rampRate * 2) (p.target * 1000)

/-- Step 5 in RAMP (R53 to R55): the setpoint, then the ramp-time test, then the in-band test. `j` has advanced its
phase elapsed. -/
def State.rampStep (h : Fin 8) (p : ProfileFields) (j : Joint) (s : State) : State :=
  let s := s.modBound h fun j => { j with setpoint := some (rampSetpoint p (j.setpoint.getD 0)) }
  if p.maxRampTime < j.phaseElapsed then s.rejectToCooling h .slow
  else if p.inBand (s.head h).temp then s.enterSoak h p
  else s

/-- Soak accumulated after one close in SOAK (R56). -/
def soakAfter (p : ProfileFields) (inBand : Bool) (soaked : Nat) : Nat :=
  if inBand then min (soaked + 2) p.soakTime else soaked

/-- Step 5 in SOAK (R56, R57). -/
def State.soakStep (h : Fin 8) (p : ProfileFields) (j : Joint) (s : State) : State :=
  let n := soakAfter p (p.inBand (s.head h).temp) j.soaked
  let s := s.modBound h fun j => { j with soaked := n }
  if n = p.soakTime then s.endSoak h p else s

/-- The steps that a feed accumulator of `acc` emits, with `fed` already fed (R58). -/
def feedSteps (p : ProfileFields) (acc fed : Nat) : Nat := min (acc / 1000) (p.feedLength - fed)

/-- Step 5 in FEED (R58, R59): in band the accumulator rises and whole steps are handed to the feeder drive. -/
def State.feedStep (h : Fin 8) (p : ProfileFields) (j : Joint) (s : State) : State :=
  if p.inBand (s.head h).temp then
    let acc := j.feedAcc + p.feedRate * 2
    let n := feedSteps p acc j.fillerFed
    let s := s.modHead h fun hd => { hd with stepsWaiting := hd.stepsWaiting + n }
    if p.feedLength ≤ j.fillerFed + n then
      (s.modBound h fun j => { j with feedAcc := 0, fillerFed := j.fillerFed + n }).enterCool h p.coolTime
    else s.modBound h fun j => { j with feedAcc := acc - 1000 * n, fillerFed := j.fillerFed + n }
  else s

/-- Step 5: the step of the joint's current phase (R50). -/
def State.phaseStep (h : Fin 8) (p : ProfileFields) (j : Joint) (s : State) : State :=
  match j.state with
  | .ramp => s.rampStep h p j
  | .soak => s.soakStep h p j
  | .feed => s.feedStep h p j
  | .planned | .placed | .cool | .done | .rejected => s

/-- Steps 3 to 5 of the close of a HEATING head (R50): overheat, phase elapsed, phase step. -/
def State.heatSteps (h : Fin 8) (s : State) : State :=
  match s.boundJoint h with
  | none => s
  | some j =>
    if j.state.heating then
      let p := (s.profileOf j).fields
      if p.overLimit (s.head h).temp then s.rejectToCooling h .overheat
      else
        let j' := { j with phaseElapsed := elapsedAfter j.phaseElapsed }
        (s.modBound h fun j => { j with phaseElapsed := elapsedAfter j.phaseElapsed }).phaseStep h p j'
    else s

/-- The close of a HEATING head after its reading has been handled (R50): an OVER reading rejects at step 1, the
sample-loss limit faults at step 2, and either takes no later step. -/
def State.heatingClose (h : Fin 8) (reading : Option Reading) (s : State) : State :=
  if reading = some .over then s.rejectToCooling h .overheat
  else if s.config.running.sampleLoss ≤ (s.head h).missed then s.headFault h .sample
  else s.heatSteps h

/-- The close of a COOLING head (R63): phase elapsed rises for a joint in COOL. -/
def State.coolingClose (h : Fin 8) (s : State) : State :=
  match s.boundJoint h with
  | some j => if j.state = .cool then s.modBound h fun j => { j with phaseElapsed := elapsedAfter j.phaseElapsed } else s
  | none => s

/-- The work of a close by the state of the head: HEATING (R50), COOLING (R63), nothing more in the other states. -/
def State.closeWork (h : Fin 8) (reading : Option Reading) (s : State) : State :=
  match (s.head h).state with
  | .heating => s.heatingClose h reading
  | .cooling => s.coolingClose h
  | .off | .idle | .loaded | .release | .fault => s

/-- PERIOD_CLOSE (R50, R63, R121 to R128): a head closes its sample period; in OFF it has no effect (R120). -/
def periodClose (t : Nat) (h : Fin 8) (clampHigh : Bool) (s : State) : State :=
  let s := s.arrive t (s.head h).closeDue
  let s := s.modHead h fun hd => { hd with closeDue := s.now + Config.periodTime }
  if (s.head h).state = .off then s
  else
    let reading := (s.head h).kept
    let s := (s.issueSteps h).modHead h fun hd => { hd with kept := none }
    let s := s.takeReading h (acceptedValue reading)
    (s.closeWork h reading).sampleClamp h clampHigh

def execPeriodClose (t : Nat) (h : Fin 8) (clampHigh : Bool) (s : State) : Host.Outcome State Fault Refusal :=
  whileOutOfReset (periodClose t h clampHigh) s

/-! ### The cooling timer (R64) -/

/-- COOLING_TIMER_EXPIRY (R64): the running timer of a COOLING head expires. -/
def coolingTimerExpiry (t : Nat) (h : Fin 8) (s : State) : State :=
  match (s.head h).state, (s.head h).coolingUntil with
  | .cooling, some e => (s.arrive t e).expireCooling h
  | _, _ => s.arrive t 0

def execCoolingTimerExpiry (t : Nat) (h : Fin 8) (s : State) : Host.Outcome State Fault Refusal :=
  whileOutOfReset (coolingTimerExpiry t h) s

/-! ### Abort (R71) -/

def abortRequest (head : Byte) : BlockOp := fun s =>
  match headOf head with
  | none => (s, some (refusal .range))
  | some h =>
    if (s.head h).state ≠ .heating then (s, some (refusal .state))
    else match s.boundJoint h with
    | none => (s, some (refusal .state))
    | some j => (s.rejectToCooling h .aborted, some (okReply (keyBytes j.key)))

def execAbort (t : Nat) (l : Link) (tag : Byte) (head : Byte) (s : State) : Host.Outcome State Fault Refusal :=
  requestCommand t l tag .abort [head] (abortRequest head) s

end Sys2Proof.Machine
end

