-- ==== Sys2Proof/Machine/JointTable.lean ====
section
/-! DEFINITION. The nine Joint Table requests (chapter 1): what the table does with each, and the commands. -/

namespace Sys2Proof.Machine

/-! ### Slots and the mark (R1, R2) -/

/-- The lowest free slot at or above `c`, the live slots from there on being given in rising order (R1). -/
def lowestFreeFrom (c : Nat) : List (Nat × Joint) → Nat
  | [] => c
  | (n, _) :: rest => if n = c then lowestFreeFrom (c + 1) rest else c

/-- The lowest-numbered free slot (R1). -/
def lowestFree (records : List (Nat × Joint)) : Nat := lowestFreeFrom 0 records

/-- The record is placed in its slot; the slots stay rising. -/
def placeRecord (n : Nat) (j : Joint) : List (Nat × Joint) → List (Nat × Joint)
  | [] => [(n, j)]
  | (m, x) :: rest => if n < m then (n, j) :: (m, x) :: rest else (m, x) :: placeRecord n j rest

/-- A new record (R3). -/
def newJoint (k : Key) (profile : Fin 32) : Joint :=
  { key := k, profile := profile, state := .planned, head := none, reheats := 0, lastTemp := none, peakTemp := none,
    setpoint := none, integral := 0, energy := 0, phaseElapsed := 0, soaked := 0, feedAcc := 0, fillerFed := 0,
    lastGrant := none, cause := none, verdict := none }

/-- The table-high mark after a Create Joints that took the live count from `before` to the present one (R2). -/
def State.markAfterCreate (before : Nat) (s : State) : State :=
  if s.table.mark = .armed ∧ before < Config.tableHighAt ∧ Config.tableHighAt ≤ s.liveCount then
    { s with table := { s.table with mark := .raised } }.raise .tableHigh
  else s

/-- The table-high mark after a retirement (R2). -/
def State.markAfterRetire (s : State) : State :=
  if s.table.mark = .raised ∧ s.liveCount ≤ Config.tableArmAt then { s with table := { s.table with mark := .armed } } else s

/-! ### Create Joints (R8, R9) -/

/-- The keys of the entries of a Create Joints. -/
def entryKeys (serial : Word24) (entries : List (Byte × Byte)) : List Key :=
  entries.map fun e => { serial := serial, position := e.1 }

/-- The first offending list index of check 3 (R8): its key is held by a record or repeats an earlier entry's. -/
def firstDuplicate (records : List (Nat × Joint)) (keys : List Key) : Option Nat :=
  (List.range keys.length).find? fun n =>
    (records.any fun x => some x.2.key = keys[n]?) || (keys.take n).any fun k => some k = keys[n]?

/-- The records are created in list order, each in the lowest free slot remaining (R9); the slots taken, in list order. -/
def createRecords (serial : Word24) : List (Byte × Byte) → List (Nat × Joint) → List Nat × List (Nat × Joint)
  | [], records => ([], records)
  | (position, number) :: rest, records =>
    let n := lowestFree records
    let j := newJoint { serial := serial, position := position } ((profileNumberOf number).getD 0)
    let r := createRecords serial rest (placeRecord n j records)
    (n :: r.1, r.2)

/-- Create Joints at the table (R8, R9). -/
def createJointsRequest (serial : Word24) (entries : List (Byte × Byte)) : BlockOp := fun s =>
  if entries.length < 1 ∨ Config.createMax < entries.length then (s, some (refusal .range))
  else match entries.findIdx? fun e => (profileNumberOf e.2).isNone with
  | some n => (s, some (refusalAt .range n))
  | none =>
    match firstDuplicate s.table.records (entryKeys serial entries) with
    | some n => (s, some (refusalAt .duplicate n))
    | none =>
      if Config.tableSlots - s.liveCount < entries.length then (s, some (refusal .full))
      else
        let r := createRecords serial entries s.table.records
        let s' := { s with table := { s.table with records := r.2 } }.markAfterCreate s.liveCount
        (s', some (okReply (counted (r.1.map bytes2) ++ s'.countAndMark)))

def execCreateJoints (t : Nat) (l : Link) (tag : Byte) (serial : Word24) (entries : List (Byte × Byte)) (s : State) :
    Host.Outcome State Fault Refusal :=
  requestCommand t l tag .createJoints (word24Bytes serial ++ pairBytes entries) (createJointsRequest serial entries) s

/-! ### Lookup (R10) -/

def lookupRequest (k : Key) : BlockOp := fun s =>
  match s.slotOf k with
  | none => (s, some (refusal .notFound))
  | some (n, j) => (s, some (okReply (j.bytes n s.nowMs)))

def execLookup (t : Nat) (l : Link) (tag : Byte) (k : Key) (s : State) : Host.Outcome State Fault Refusal :=
  requestCommand t l tag .lookup (keyBytes k) (lookupRequest k) s

/-! ### Find (R11, R12) -/

/-- The records that match at or above a slot, in slot order (R11). -/
def findMatches (code mask : Key) (states : Byte) (start : Nat) (records : List (Nat × Joint)) : List (Nat × Joint) :=
  records.filter fun x => start ≤ x.1 ∧ keyMatches code mask x.2.key ∧ inStateSet states x.2.state

/-- The next slot that a Find answers, none for the end mark (R12). -/
def findNext (found : List (Nat × Joint)) : Option Nat :=
  match found[Config.findMax - 1]? with
  | some x => if x.1 < Config.tableSlots - 1 then some (x.1 + 1) else none
  | none => none

def findRequest (code mask : Key) (states : Byte) (start : Word16) : BlockOp := fun s =>
  if states = 0 ∨ Config.tableSlots ≤ start.toNat then (s, some (refusal .range))
  else
    let found := (findMatches code mask states start.toNat s.table.records).take Config.findMax
    (s, some (okReply (counted (found.map fun x => bytes2 x.1 ++ keyBytes x.2.key) ++
      bytes2 ((findNext found).getD 0xFFFF) ++ s.countAndMark)))

def execFind (t : Nat) (l : Link) (tag : Byte) (code mask : Key) (states : Byte) (start : Word16) (s : State) :
    Host.Outcome State Fault Refusal :=
  requestCommand t l tag .find (keyBytes code ++ keyBytes mask ++ [states] ++ word16Bytes start)
    (findRequest code mask states start) s

/-! ### Bind (R14, R15) -/

/-- A record and a head are bound in one request (R15). -/
def State.bindTo (k : Key) (h : Fin 8) (s : State) : State :=
  (s.modJoint k fun j => { j with state := .placed, head := some h }).modHead h fun hd =>
    { hd with state := .loaded, bound := some k }

def bindRequest (k : Key) (head : Byte) : BlockOp := fun s =>
  match headOf head with
  | none => (s, some (refusal .range))
  | some h =>
    match s.joint k with
    | none => (s, some (refusal .notFound))
    | some j =>
      if j.state ≠ .planned ∨ (s.profileOf j).valid = false ∨ (s.head h).state ≠ .idle then (s, some (refusal .state))
      else
        let s' := (s.bindTo k h).testStart h
        (s', some (okReply [byteOf (((s'.joint k).map fun j => j.state.code).getD 0)]))

def execBind (t : Nat) (l : Link) (tag : Byte) (k : Key) (head : Byte) (s : State) : Host.Outcome State Fault Refusal :=
  requestCommand t l tag .bind (keyBytes k ++ [head]) (bindRequest k head) s

/-! ### Unbind (R18) -/

def unbindRequest (k : Key) : BlockOp := fun s =>
  match s.joint k with
  | none => (s, some (refusal .notFound))
  | some j =>
    if j.state ≠ .placed then (s, some (refusal .state))
    else
      let s' := s.modJoint k fun j => { j with state := .planned, head := none }
      match j.head with
      | none => (s', some (okReply []))
      | some h => (s'.modHead h fun hd => { hd with state := .idle, bound := none }, some (okReply []))

def execUnbind (t : Nat) (l : Link) (tag : Byte) (k : Key) (s : State) : Host.Outcome State Fault Refusal :=
  requestCommand t l tag .unbind (keyBytes k) (unbindRequest k) s

/-! ### Set Verdict (R20) -/

def setVerdictRequest (k : Key) (verdict : Byte) : BlockOp := fun s =>
  match verdictOf verdict with
  | none => (s, some (refusal .range))
  | some v =>
    match s.joint k with
    | none => (s, some (refusal .notFound))
    | some j =>
      if (j.state ≠ .done ∧ j.state ≠ .rejected) ∨ j.verdict.isSome then (s, some (refusal .state))
      else (s.modJoint k fun j => { j with verdict := some v }, some (okReply []))

def execSetVerdict (t : Nat) (l : Link) (tag : Byte) (k : Key) (verdict : Byte) (s : State) :
    Host.Outcome State Fault Refusal :=
  requestCommand t l tag .setVerdict (keyBytes k ++ [verdict]) (setVerdictRequest k verdict) s

/-! ### Rearm (R22, R23) -/

/-- The causes from which a Rearm may be accepted (R22). -/
def RejectCause.rearmable : RejectCause → Bool
  | .clampLost | .sampleLoss | .coupling | .coolant | .supply | .generator | .aborted => true
  | .overheat | .slow | .energy | .earlyRelease => false

/-- The conditions of a Rearm (R22). -/
def Joint.mayRearm (j : Joint) (p : Profile) : Bool :=
  j.state = .rejected ∧ j.head = none ∧ j.verdict = none ∧ (j.cause.any fun c => c.rearmable) ∧
  j.reheats < Config.reheatMax ∧ p.peakPasses j.peakTemp

/-- A record after a Rearm (R23). -/
def Joint.rearmed (j : Joint) : Joint :=
  { j with state := .planned, reheats := j.reheats + 1, cause := none, setpoint := none, lastGrant := none, integral := 0,
           phaseElapsed := 0, soaked := 0, feedAcc := 0, fillerFed := 0 }

def rearmRequest (k : Key) : BlockOp := fun s =>
  match s.joint k with
  | none => (s, some (refusal .notFound))
  | some j =>
    if j.mayRearm (s.profileOf j) then (s.modJoint k Joint.rearmed, some (okReply [byteOf (j.reheats + 1)]))
    else (s, some (refusal .state))

def execRearm (t : Nat) (l : Link) (tag : Byte) (k : Key) (s : State) : Host.Outcome State Fault Refusal :=
  requestCommand t l tag .rearm (keyBytes k) (rearmRequest k) s

/-! ### Retire (R25, R26) -/

/-- A record is removed and its slot freed (R26). -/
def State.removeJoint (k : Key) (s : State) : State :=
  { s with table := { s.table with records := s.table.records.filter fun x => x.2.key ≠ k } }

/-- Check 3 of R25 is made on the Inspection Link alone: the record needs a verdict. -/
def Joint.mayRetireOn (j : Joint) : Link → Bool
  | .cell => true
  | .inspection => j.verdict.isSome

def retireRequest (l : Link) (k : Key) : BlockOp := fun s =>
  match s.joint k with
  | none => (s, some (refusal .notFound))
  | some j =>
    if j.head.isSome ∨ j.mayRetireOn l = false then (s, some (refusal .state))
    else
      let s' := (s.removeJoint k).markAfterRetire
      (s', some (okReply s'.countAndMark))

def execRetire (t : Nat) (l : Link) (tag : Byte) (k : Key) (s : State) : Host.Outcome State Fault Refusal :=
  requestCommand t l tag .retire (keyBytes k) (retireRequest l k) s

/-! ### Retire Matching (R28) -/

/-- A matched record that a Retire Matching retires: unbound, and PLANNED, DONE or REJECTED (R28). -/
def Joint.retirable (j : Joint) : Bool :=
  j.head = none ∧ (j.state = .planned ∨ j.state = .done ∨ j.state = .rejected)

def retireMatchingRequest (code mask : Key) : BlockOp := fun s =>
  let hit := s.table.records.filter fun x => keyMatches code mask x.2.key
  let retired := (hit.filter fun x => x.2.retirable).length
  let kept := s.table.records.filter fun x => !(keyMatches code mask x.2.key && x.2.retirable)
  let s' := { s with table := { s.table with records := kept } }.markAfterRetire
  (s', some (okReply (bytes2 retired ++ bytes2 (hit.length - retired) ++ s'.countAndMark)))

def execRetireMatching (t : Nat) (l : Link) (tag : Byte) (code mask : Key) (s : State) : Host.Outcome State Fault Refusal :=
  requestCommand t l tag .retireMatching (keyBytes code ++ keyBytes mask) (retireMatchingRequest code mask) s

end Sys2Proof.Machine
end

