-- ==== Sys2Proof/Machine/Profiles.lean ====
section
/-! DEFINITION. The Profile Table (chapter 2): the profile requests, and the two events of a Store Profiles. -/

namespace Sys2Proof.Machine

/-- A write to NV memory of one profile, its check written with it (R41). -/
def StoredProfile.ofProfile (p : Profile) : StoredProfile := { valid := p.valid, fields := p.fields, checkAgrees := true }

/-! ### Write Profile (R33 to R35) -/

/-- A working profile is replaced and its status becomes WRITTEN (R34, R35). -/
def State.writeWorking (n : Fin 32) (valid : Bool) (f : ProfileFields) (s : State) : State :=
  { s with profiles := { s.profiles with
      working := s.profiles.working.set n { valid := valid, fields := f, status := .written } } }

def writeProfileRequest (number flag : Byte) (words : Vector Word16 16) : BlockOp := fun s =>
  match profileNumberOf number with
  | none => (s, some (refusal .range))
  | some n =>
    let f := ProfileFields.ofWords words
    let valid := flag.getLsbD 0
    match (if valid then f.offending else none) with
    | some i => (s, some (refusalAt .range i))
    | none =>
      if s.cell.state.running then (s, some (refusal .state))
      else (s.writeWorking n valid f,
        some (okReply (if valid then [byteOf n.val, byteOf ProfileStatus.written.code] else [])))

def execWriteProfile (t : Nat) (l : Link) (tag : Byte) (number flag : Byte) (words : Vector Word16 16) (s : State) :
    Host.Outcome State Fault Refusal :=
  requestCommand t l tag .writeProfile ([number, flag] ++ words.toList.flatMap word16Bytes)
    (writeProfileRequest number flag words) s

/-! ### Read Profile (R37) -/

def readProfileRequest (number : Byte) : BlockOp := fun s =>
  match profileNumberOf number with
  | none => (s, some (refusal .range))
  | some n => (s, some (okReply (profileBytes n (s.profiles.working.get n))))

def execReadProfile (t : Nat) (l : Link) (tag : Byte) (number : Byte) (s : State) : Host.Outcome State Fault Refusal :=
  requestCommand t l tag .readProfile [number] (readProfileRequest number) s

/-! ### Store Profiles (R41, R42) -/

/-- The 32 working profiles are captured and the request becomes the link's request in progress (R41, R164). -/
def storeProfilesRequest (l : Link) (tag : Byte) : BlockOp := fun s =>
  ({ s with profiles := { s.profiles with
       store := some { captured := s.profiles.working, written := 0, since := s.now } } }.setInProgress l
     (some { request := .storeProfiles, tag := tag }), none)

def execStoreProfiles (t : Nat) (l : Link) (tag : Byte) (s : State) : Host.Outcome State Fault Refusal :=
  requestCommand t l tag .storeProfiles [] (storeProfilesRequest l tag) s

/-- The write of the next profile of a store completes (R41): the captured copy, with its check. -/
def StoreRun.writeNext (r : StoreRun) (stored : Vector StoredProfile 32) : StoreRun × Vector StoredProfile 32 :=
  if h : r.written < 32 then
    ({ r with written := r.written + 1 }, stored.set r.written (StoredProfile.ofProfile (r.captured.get ⟨r.written, h⟩)))
  else (r, stored)

/-- STORED_PROFILE_WRITTEN (R41): every 1.25 ms the write of one profile completes, in profile order. -/
def storedProfileWritten (t : Nat) (s : State) : State :=
  match s.profiles.store with
  | some r =>
    if r.written < 32 then
      let s := s.arrive t (r.since + (r.written + 1) * Config.profileWriteTime)
      let x := r.writeNext s.profiles.stored
      { s with profiles := { s.profiles with stored := x.2, store := some x.1 } }
    else s.arrive t 0
  | none => s.arrive t 0

def execStoredProfileWritten (t : Nat) (s : State) : Host.Outcome State Fault Refusal :=
  whileOutOfReset (storedProfileWritten t) s

/-- The stored copies after a store has written the profiles it had not yet reached. -/
def StoreRun.finish (r : StoreRun) (stored : Vector StoredProfile 32) : Vector StoredProfile 32 :=
  Vector.ofFn fun n : Fin 32 => if n.val < r.written then stored.get n else StoredProfile.ofProfile (r.captured.get n)

/-- The profiles stored with the valid flag set (R41). -/
def StoreRun.validCount (r : StoreRun) : Nat := (r.captured.toList.filter fun p => p.valid).length

/-- STORE_PROFILES_COMPLETE (R41, R164): at the end of the 40 ms every profile becomes STORED, the link's request in
progress becomes absent, and the OK answer with the saved tag is made. -/
def storeProfilesComplete (t : Nat) (s : State) : State :=
  match s.profiles.store, s.cellLink.inProgress with
  | some r, some p =>
    let s := s.arrive t (r.since + Config.storeTime)
    let s := { s with profiles :=
      { working := s.profiles.working.map fun w : Profile => { w with status := .stored }, stored := r.finish s.profiles.stored,
        store := none } }
    (s.setInProgress .cell none).queueAnswer .cell (answerFrame .ok p.tag [byteOf r.validCount])
  | _, _ => s.arrive t 0

def execStoreProfilesComplete (t : Nat) (s : State) : Host.Outcome State Fault Refusal :=
  whileOutOfReset (storeProfilesComplete t) s

end Sys2Proof.Machine
end

