-- ==== Sys2Proof/Machine/Scheduler.lean ====
section
/-! DEFINITION. The Slot Scheduler (chapter 5): the grant decision, SLOT_START, SLOT_END with the two works it hands on
(energy chapter 4, tank section 6.5), and the slot set, priority and group requests. -/

namespace Sys2Proof.Machine

/-! ### The grant decision (R99 to R103) -/

/-- A head may be granted (R99): HEATING, its bound joint in RAMP, SOAK or FEED, T present; the joint and T. -/
def State.eligible (s : State) (h : Fin 8) : Option (Joint × Nat) :=
  match s.boundJoint h, (s.head h).temp with
  | some j, some temp => if (s.head h).state = .heating ∧ j.state.heating then some (j, temp) else none
  | _, _ => none

/-- An eligible head that is not satisfied (R99): T is below the aim of its joint, whose phase `q` matches. -/
def State.wants (s : State) (q : Qualifier) (h : Fin 8) : Bool :=
  (s.eligible h).any fun x => q.accepts x.1.state ∧ x.2 < aim (s.profileOf x.1).fields x.1

/-- Step 1 (R100): the scheduled head, satisfied or not. -/
def State.scheduledGrant (s : State) : Option Grant :=
  match (s.sched.entries s.sched.active)[s.sched.position]? with
  | some e =>
    if (s.eligible e.head).any fun x => e.qualifier.accepts x.1.state then some { head := e.head, source := .scheduled }
    else none
  | none => none

/-- Step 2 (R101): the first entry of the priority list whose head matches its qualifier and is not satisfied. -/
def State.priorityGrant (s : State) : Option Grant :=
  (s.sched.priority.find? fun e => s.wants e.qualifier e.head).map fun e => { head := e.head, source := .priority }

/-- The members of a group in search order (R102): from the member after the pointer, around to the member it names. -/
def RobinGroup.order (g : RobinGroup) : List (Fin 8) :=
  match g.pointer with
  | none => []
  | some m => (g.members.dropWhile (· ≠ m)).tail ++ g.members.takeWhile (· ≠ m) ++ g.members.filter (· = m)

/-- Steps 3 and 4 (R102): the first member that is eligible and not satisfied. -/
def State.groupPick (s : State) (g : RobinGroup) : Option (Fin 8) := g.order.find? fun h => s.wants .any h

/-- The grant of a slot (R99 to R103), none for an idle slot. -/
def State.decideGrant (s : State) : Option Grant :=
  match s.scheduledGrant with
  | some g => some g
  | none =>
    match s.priorityGrant with
    | some g => some g
    | none =>
      match s.groupPick s.sched.group1 with
      | some h => some { head := h, source := .group1 }
      | none => (s.groupPick s.sched.group2).map fun h => { head := h, source := .group2 }

/-- The pointers after a grant: a grant from a group moves that group's pointer to the member granted (R102). -/
def Scheduler.afterGrant (sc : Scheduler) : Option Grant → Scheduler
  | some g => match g.source with
    | .group1 => { sc with group1 := { sc.group1 with pointer := some g.head } }
    | .group2 => { sc with group2 := { sc.group2 with pointer := some g.head } }
    | .scheduled | .priority => sc
  | none => sc

/-- SLOT_START (R96, R99, R105): the grant is decided, the current slot recorded, and the output switched with the
demand code at 0: first opened from the previous head, then connected to the granted one. It follows the slot end: while a
tank judgement is still to be made there is none (log 5, log 35). -/
def slotStart (t : Nat) (s : State) : State :=
  match s.sched.startDue, s.sched.judging with
  | none, _ | some _, some _ => s.arrive t 0
  | some due, none =>
    let s := s.arrive t due
    let g := s.decideGrant
    let sc := s.sched.afterGrant g
    let s := { s with sched := { sc with
      startDue := none,
      current := some { position := sc.position, start := s.now, grant := g, cut := false, guardEnded := false } } }
    (((s.setTank .off).setCode 0).connect none).connect (g.map Grant.head)

def execSlotStart (t : Nat) (s : State) : Host.Outcome State Fault Refusal := whileOutOfReset (slotStart t) s

/-! ### The slot end (R96, R107) -/

/-- The energy-limit test (R88): a heating joint over its limit is rejected ENERGY, at the head of the closed account. -/
def State.energyTest (h : Fin 8) (k : Key) (s : State) : State :=
  match s.joint k with
  | some j =>
    if (s.profileOf j).fields.overEnergy j.energy ∧ (s.head h).bound = some k then s.rejectToCooling h .energy else s
  | none => s

/-- The Power Computation Unit's work at a slot end (R87, R88): the account is closed with the full on-time, then the
test is made; a slot without an account has neither. -/
def State.energyWork (s : State) : State :=
  match s.power.account with
  | some a => (s.closeAccount (s.config.running.slotLength - 1)).energyTest a.head a.joint
  | none => s

/-- The Head Channel's judgement of the slot's tank frequency (R133), at a head whose joint is still bound.
DESIGN CHOICE (log 38): the window is read here, at the judgement of R133, from the working profile as it then stands; the table of
section 2.5 has it read at the end of the measurement. -/
def State.tankWork (h : Fin 8) (measured : Option Nat) (s : State) : State :=
  match measured, s.boundProfile h with
  | some f, some p =>
    if p.fields.tankInside f then s.modHead h fun hd => { hd with lastTank := some f, tankMiss := 0 }
    else
      let s := s.modHead h fun hd => { hd with lastTank := some f, tankMiss := min 2 (hd.tankMiss + 1) }
      if (s.head h).tankMiss = 2 then s.headFault h .tank else s
  | _, _ => s

/-- The measurement of a slot, none if it has not ended (R132). -/
def TankMeasure.result : TankMeasure → Option Nat
  | .ended f => some f
  | .off | .armed | .timing _ => none

/-- The frame position advances; at N the frame ends, the position returns to 0 and a pending switch takes effect; the
next slot start follows at once (R96, R112). -/
def State.advanceFrame (s : State) : State :=
  let s := { s with sched := { s.sched with startDue := some s.now } }
  if (s.sched.entries s.sched.active).length ≤ s.sched.position + 1 then
    { s with sched := { s.sched with position := 0 } }.applySwitch
  else { s with sched := { s.sched with position := s.sched.position + 1 } }

/-- The two works of the slot end of a granted slot that was not cut, and the frame's advance (R96, R107): in the order
given, or with the tank judgement and the advance left to a second SLOT_END (R133). -/
def State.slotEndWorks (h : Fin 8) (measured : Option Nat) (order : SlotEndOrder) (s : State) : State :=
  match order with
  | .energyFirst => (s.energyWork.tankWork h measured).advanceFrame
  | .tankFirst => (s.tankWork h measured).energyWork.advanceFrame
  | .energyAlone =>
    let s' := s.energyWork
    { s' with sched := { s'.sched with judging := some { head := h, joint := (s.head h).bound, measured := measured } } }

/-- The tank judgement that was left, at a head whose joint of that slot is still bound: an event taken between the energy and
the judgement may have unbound it, and then no judgement is made (R133).
DESIGN CHOICE (log 38): a Write Profile taken between the two has changed the window that applies. -/
def State.judgeTank (w : SlotTank) (s : State) : State :=
  if (s.head w.head).bound = w.joint then s.tankWork w.head w.measured else s

/-- A slot end that was left at its tank judgement is completed, and the frame advances if slots still run (R96, R97, R133).
DESIGN CHOICE (log 35): where the scheduler was stopped between the two, the judgement alone is made. -/
def State.completeSlotEnd (w : SlotTank) (s : State) : State :=
  let s := { s with sched := { s.sched with judging := none } }.judgeTank w
  if s.cell.state.running ∧ s.sched.startDue = none then s.advanceFrame else s

/-- SLOT_END (R96, R107): one slot length after the slot start. The output of an uncut granted slot ends and its two works
are done; an idle or cut slot hands on nothing. With no slot running it completes one whose tank judgement was left (R133). -/
def slotEnd (t : Nat) (order : SlotEndOrder) (s : State) : State :=
  match s.sched.current, s.sched.judging with
  | none, none => s.arrive t 0
  | none, some w => (s.arrive t 0).completeSlotEnd w
  | some c, _ =>
    let s := s.arrive t (c.start + s.config.running.slotLength * 1000)
    let measured := s.gen.tank.result
    let s := ({ s with sched := { s.sched with current := none } }.setTank .off).setCode 0
    match c.grant with
    | some g => if c.cut then s.advanceFrame else s.slotEndWorks g.head measured order
    | none => s.advanceFrame

def execSlotEnd (t : Nat) (order : SlotEndOrder) (s : State) : Host.Outcome State Fault Refusal :=
  whileOutOfReset (slotEnd t order) s

/-! ### Write Slots (R108, R109) -/

/-- A slot set is replaced (R109). -/
def State.writeSet (n : SetName) (entries : List SlotEntry) (s : State) : State :=
  match n with
  | .a => { s with sched := { s.sched with setA := entries } }
  | .b => { s with sched := { s.sched with setB := entries } }

def writeSlotsRequest (set : Byte) (entries : List (Byte × Byte)) : BlockOp := fun s =>
  match setNameOf set with
  | none => (s, some (refusal .range))
  | some n =>
    if entries.length < 1 ∨ Config.setMax < entries.length then (s, some (refusal .range))
    else match entries.findIdx? fun e => (entryOf e).isNone with
    | some i => (s, some (refusalAt .range i))
    | none =>
      if s.sched.switchTo = some n then (s, some (refusal .busy))
      else if n = s.sched.active ∧ s.cell.state.running then (s, some (refusal .state))
      else (s.writeSet n (entries.filterMap entryOf), some (okReply [byteOf n.code, byteOf entries.length]))

def execWriteSlots (t : Nat) (l : Link) (tag : Byte) (set : Byte) (entries : List (Byte × Byte)) (s : State) :
    Host.Outcome State Fault Refusal :=
  requestCommand t l tag .writeSlots (set :: pairBytes entries) (writeSlotsRequest set entries) s

/-! ### Read Slots (R110) -/

def readSlotsRequest (set : Byte) : BlockOp := fun s =>
  match setNameOf set with
  | none => (s, some (refusal .range))
  | some n => (s, some (okReply (s.sched.bytes n)))

def execReadSlots (t : Nat) (l : Link) (tag : Byte) (set : Byte) (s : State) : Host.Outcome State Fault Refusal :=
  requestCommand t l tag .readSlots [set] (readSlotsRequest set) s

/-! ### Switch Slots (R111, R112) -/

def switchSlotsRequest (set : Byte) : BlockOp := fun s =>
  match setNameOf set with
  | none => (s, some (refusal .range))
  | some n =>
    if s.sched.switchTo.isSome then (s, some (refusal .busy))
    else if s.sched.entries n = [] then (s, some (refusal .empty))
    else if n = s.sched.active then (s, some (okReply [0]))
    else
      let s := { s with sched := { s.sched with switchTo := some n } }
      if s.cell.state.running then (s, some (okReply [1]))
      else
        let s := s.applySwitch
        ({ s with sched := { s.sched with position := 0 } }, some (okReply [0]))

def execSwitchSlots (t : Nat) (l : Link) (tag : Byte) (set : Byte) (s : State) : Host.Outcome State Fault Refusal :=
  requestCommand t l tag .switchSlots [set] (switchSlotsRequest set) s

/-! ### Write Priority (R114) -/

def writePriorityRequest (entries : List (Byte × Byte)) : BlockOp := fun s =>
  if Config.listMax < entries.length ∨ (entries.any fun e => (entryOf e).isNone) ∨
      (firstRepeat (entries.map Prod.fst)).isSome then (s, some (refusal .range))
  else ({ s with sched := { s.sched with priority := entries.filterMap entryOf } }, some (okReply []))

def execWritePriority (t : Nat) (l : Link) (tag : Byte) (entries : List (Byte × Byte)) (s : State) :
    Host.Outcome State Fault Refusal :=
  requestCommand t l tag .writePriority (pairBytes entries) (writePriorityRequest entries) s

/-! ### Write Group (R115) -/

/-- A group just written: its pointer names the last member, absent for an empty group (R115). -/
def RobinGroup.ofMembers (ms : List (Fin 8)) : RobinGroup := { members := ms, pointer := ms.getLast? }

def writeGroupRequest (group : Byte) (members : List Byte) : BlockOp := fun s =>
  if (group ≠ 1 ∧ group ≠ 2) ∨ Config.listMax < members.length ∨ (members.any fun m => (headOf m).isNone) ∨
      (firstRepeat members).isSome then (s, some (refusal .range))
  else
    let g := RobinGroup.ofMembers (members.filterMap headOf)
    (if group = 1 then { s with sched := { s.sched with group1 := g } } else { s with sched := { s.sched with group2 := g } },
     some (okReply []))

def execWriteGroup (t : Nat) (l : Link) (tag : Byte) (group : Byte) (members : List Byte) (s : State) :
    Host.Outcome State Fault Refusal :=
  requestCommand t l tag .writeGroup (group :: members) (writeGroupRequest group members) s

end Sys2Proof.Machine
end

