-- ==== Sys2Proof/Machine/Links.lean ====
section
/-! DEFINITION. The Request Links (chapter 8): bytes and frames, the answers' way out, and the Cell Link's transactions. -/

namespace Sys2Proof.Machine

/-! ### Frames that reach no block (R161, R162) -/

/-- UNKNOWN_REQUEST (R162 step 3): a good frame whose code names no request, whole as a request's is (log 4, log 37). -/
def execUnknownRequest (t : Nat) (l : Link) (tag : Byte) (code : Byte) (s : State) : Host.Outcome State Fault Refusal :=
  whileOutOfReset
    (fun s => if (requestCodeOf code).isNone then frameCompletes t l tag none 0 (fun s => (s, none)) s else s.arrive t 0) s

/-- A bad frame is ended at time `t` (R161); in the quiet period bytes are discarded and nothing is raised (R158).
DESIGN CHOICE (log 37): FRAME_WRONG_LENGTH and FRAME_CHECK_FAILURE stand for the whole bad frame, in WAITING as in COLLECTING: the
receiver then waits, and bytes it held of another frame are dropped. -/
def badFrame (t due : Nat) (l : Link) (s : State) : State :=
  let s := s.arrive t due
  if s.phase = .operating then s.endBadFrame l else s

/-- FRAME_WRONG_LENGTH (R161): a length byte above 250 arrives. -/
def execFrameWrongLength (t : Nat) (l : Link) (length : Byte) (s : State) : Host.Outcome State Fault Refusal :=
  whileOutOfReset (fun s => if Config.payloadMax < length.toNat then badFrame t 0 l s else s.arrive t 0) s

/-- FRAME_CHECK_FAILURE (R161): a frame completes whose CRC-8 disagrees. -/
def execFrameCheckFailure (t : Nat) (l : Link) (s : State) : Host.Outcome State Fault Refusal :=
  whileOutOfReset (badFrame t 0 l) s

/-- FRAME_BROKEN_OFF (R161): 5 ms have passed with no byte in a frame being collected. -/
def frameBrokenOff (t : Nat) (l : Link) (s : State) : State :=
  match (s.link l).receiver with
  | .collecting _ lastAt => badFrame t (lastAt + Config.brokenOffTime) l s
  | .waiting => s.arrive t 0

def execFrameBrokenOff (t : Nat) (l : Link) (s : State) : Host.Outcome State Fault Refusal :=
  whileOutOfReset (frameBrokenOff t l) s

/-! ### A request at its block (R162 step 6) -/

/-- What the block a request is handed to does with it (the catalogue of R169). -/
def requestOp : Instr → BlockOp
  | .createJoints _ _ _ serial entries => createJointsRequest serial entries
  | .lookup _ _ _ k => lookupRequest k
  | .find _ _ _ code mask states start => findRequest code mask states start
  | .bind _ _ _ k head => bindRequest k head
  | .unbind _ _ _ k => unbindRequest k
  | .setVerdict _ _ _ k verdict => setVerdictRequest k verdict
  | .rearm _ _ _ k => rearmRequest k
  | .retire _ l _ k => retireRequest l k
  | .retireMatching _ _ _ code mask => retireMatchingRequest code mask
  | .writeProfile _ _ _ number flag words => writeProfileRequest number flag words
  | .readProfile _ _ _ number => readProfileRequest number
  | .storeProfiles _ l tag => storeProfilesRequest l tag
  | .abort _ _ _ head => abortRequest head
  | .writeSlots _ _ _ set entries => writeSlotsRequest set entries
  | .readSlots _ _ _ set => readSlotsRequest set
  | .switchSlots _ _ _ set => switchSlotsRequest set
  | .writePriority _ _ _ entries => writePriorityRequest entries
  | .writeGroup _ _ _ group members => writeGroupRequest group members
  | .enableHead _ _ _ head => enableHeadRequest head
  | .disableHead _ _ _ head => disableHeadRequest head
  | .clearFault _ _ _ head => clearFaultRequest head
  | .readHead _ _ _ head => readHeadRequest head
  | .start _ _ _ => startRequest
  | .stop _ _ _ => stopRequest
  | .haltAll _ _ _ => haltAllRequest
  | .clearTrip _ _ _ => clearTripRequest
  | .readCell _ _ _ => readCellRequest
  | .readEvents _ _ _ => readEventsRequest
  | .acknowledgeEvents _ _ _ kinds => acknowledgeEventsRequest kinds
  | .setLevels _ _ _ pairs => setLevelsRequest pairs
  | .writeConfig _ l tag record => writeConfigRequest l tag record
  | .readConfig _ _ _ => readConfigRequest
  | .identify _ _ _ => identifyRequest
  | .hardwareReset | .quietPeriodEnd _ | .resetAssertedOrPowerLost | .storedProfileWritten _
  | .storeProfilesComplete _ | .periodClose _ _ _ | .coolingTimerExpiry _ _ | .slotStart _ | .guardEnd _
  | .tankMeasurementBegin _ | .tankMeasurementEnd _ | .slotEnd _ _ | .readingReceived _ _ _ _ _ _
  | .feederPulse _ _ | .flowPulse _ _ | .flowWindowClose _ _ | .dcLinkSample _ _ _ | .faultLineSample _ _
  | .writeConfigComplete _ | .unknownRequest _ _ _ _ | .frameWrongLength _ _ _ | .frameCheckFailure _ _
  | .frameBrokenOff _ _ | .linkByteCompletes _ _ _ | .answerSent _ _ | .transactionBegin _ | .transactionEnd _ =>
    fun s => (s, none)

/-! ### Bytes (R159 to R162) -/

/-- A frame with a good check is judged (R162), its payload decoded if it is taken (R170). -/
def State.judgeBytes (t : Nat) (l : Link) (code tag : Byte) (payload : List Byte) (s : State) : State :=
  s.judgeFrame l tag (requestCodeOf code) payload.length fun s =>
    match requestCodeOf code with
    | some c => requestOp (decodeRequest t l tag c payload) s
    | none => (s, none)

/-- A byte arrives while a frame is collected (R159): the length byte, a byte held, or the check byte that completes it. -/
def State.collectByte (t : Nat) (l : Link) (held : List Byte) (b : Byte) (s : State) : State :=
  let bytes := held ++ [b]
  if held.length = 1 then
    if Config.payloadMax < b.toNat then s.endBadFrame l else s.setReceiver l (.collecting bytes s.now)
  else if held.length + 1 < (byteAt bytes 1).toNat + 5 then s.setReceiver l (.collecting bytes s.now)
  else if crc8 (held.drop 1) = b then s.judgeBytes t l (byteAt held 2) (byteAt held 3) (held.drop 4)
  else s.endBadFrame l

/-- The receiver handles a byte (R159). A frame whose last byte completed more than 5 ms before this one has broken off
first (R161, log 12). -/
def State.receiveByte (t : Nat) (l : Link) (b : Byte) (s : State) : State :=
  let s := match (s.link l).receiver with
    | .collecting _ lastAt => if lastAt + Config.brokenOffTime < s.now then s.endBadFrame l else s
    | .waiting => s
  match (s.link l).receiver with
  | .waiting => if b = startByte then s.setReceiver l (.collecting [b] s.now) else s
  | .collecting held _ => s.collectByte t l held b

/-- The bytes of the oldest answer of the Cell Link. -/
def State.frontAnswer (s : State) : List Byte := s.cellLink.answers.headD []

/-- One byte is shifted out on CL_DOUT (R166). -/
def State.shiftOut (s : State) : State :=
  match s.port.transaction with
  | some (.answer n) =>
    { s with port := { s.port with
        transaction := some (.answer (min (n + 1) s.frontAnswer.length)), dout := byteAt s.frontAnswer n } }
  | some .filler => { s with port := { s.port with dout := 0 } }
  | none => s

/-- What a transaction shifts from its next byte on: the oldest answer from its start byte, or 0x00 (R166). -/
def State.nextShifting (s : State) : Shifting := if s.cellLink.answers = [] then .filler else .answer 0

/-- The oldest answer leaves the queue (R165). -/
def State.popAnswer (l : Link) (s : State) : State := s.setLink l { s.link l with answers := (s.link l).answers.tail }

/-- Once its last byte has been shifted out the oldest answer leaves the Cell Link's queue; the next one's start byte
follows in the same transaction, and 0x00 once the queue is empty (R165, R166). -/
def State.answerLeaves (s : State) : State :=
  match s.port.transaction with
  | some (.answer n) =>
    if s.frontAnswer.length ≤ n then
      let s := s.popAnswer .cell
      { s with port := { s.port with transaction := some s.nextShifting } }
    else s
  | some .filler | none => s

/-- The byte that goes out while one comes in; none where it has gone out ahead, with ANSWER_SENT (log 11). -/
def State.byteOut (s : State) : State :=
  if s.port.ahead then { s with port := { s.port with ahead := false } } else s.shiftOut

/-- A byte of the Cell Link completes in both directions (R166). DESIGN CHOICE (log 33): where the byte that goes out is the
last of an answer, the byte that comes in is handled first, with the answer still in its place, and the answer leaves
then; with ANSWER_SENT before it the answer leaves first. -/
def State.exchangeByte (t : Nat) (b : Byte) (s : State) : State :=
  let s' := s.byteOut
  let s' := if s.phase = .operating then s'.receiveByte t .cell b else s'
  if s.port.ahead then s' else s'.answerLeaves

/-- LINK_BYTE_COMPLETES (R159, R166, R168): a byte completes and the receiver handles it. On the Cell Link clocks are
ignored while CL_SEL is high (R166); in the quiet period bytes are discarded (R158). -/
def linkByteCompletes (t : Nat) (l : Link) (b : Byte) (s : State) : State :=
  let s := s.arrive t 0
  match l with
  | .cell => if s.port.transaction = none then s else s.exchangeByte t b
  | .inspection => if s.phase = .operating then s.receiveByte t .inspection b else s

def execLinkByteCompletes (t : Nat) (l : Link) (b : Byte) (s : State) : Host.Outcome State Fault Refusal :=
  whileOutOfReset (linkByteCompletes t l b) s

/-! ### Answers leaving (R165 to R168) -/

/-- The last byte of the answer being shifted out goes out, and the answer leaves (R166); at any other byte of an answer
nothing is sent yet (log 5). The byte that comes in with it is the next LINK_BYTE_COMPLETES (log 11). -/
def State.sendLastByte (s : State) : State :=
  match s.port.transaction with
  | some (.answer n) =>
    if s.port.ahead = false ∧ n + 1 = s.frontAnswer.length then
      let s := s.shiftOut.answerLeaves
      { s with port := { s.port with ahead := true } }
    else s
  | some .filler | none => s

/-- The check byte of the Inspection Link's oldest answer has been transmitted (R168): ten bit times for each byte after it
began to go out it leaves the queue, and the next begins at once. -/
def State.transmitAnswer (t : Nat) (s : State) : State :=
  match s.inspLink.answers with
  | [] => s.arrive t 0
  | frame :: rest =>
    let s := s.arrive t (s.txSince.getD 0 + s.config.running.linkSpeed.transmitTime frame.length)
    { (s.popAnswer .inspection).drive (.transmit frame) with txSince := if rest = [] then none else some s.now }

/-- ANSWER_SENT (R165, R166, R168): the last byte of the oldest answer is shifted out or transmitted. -/
def answerSent (t : Nat) (l : Link) (s : State) : State :=
  match l with
  | .inspection => s.transmitAnswer t
  | .cell => (s.arrive t 0).sendLastByte

def execAnswerSent (t : Nat) (l : Link) (s : State) : Host.Outcome State Fault Refusal :=
  whileOutOfReset (answerSent t l) s

/-- TRANSACTION_BEGIN (R166): CL_SEL falls. -/
def transactionBegin (t : Nat) (s : State) : State :=
  let s := s.arrive t 0
  match s.port.transaction with
  | some _ => s
  | none =>
    { s with port := { s.port with transaction := some s.nextShifting } }

/-- CL_SEL is an input: its level is followed in reset too (log 10). -/
def execTransactionBegin (t : Nat) (s : State) : Host.Outcome State Fault Refusal := .next (transactionBegin t s)

/-- TRANSACTION_END (R167): CL_SEL rises; a partly shifted answer stays at the front of the queue. -/
def transactionEnd (t : Nat) (s : State) : State :=
  let s := s.arrive t 0
  { s with port := { s.port with transaction := none, ahead := false } }

def execTransactionEnd (t : Nat) (s : State) : Host.Outcome State Fault Refusal := .next (transactionEnd t s)

end Sys2Proof.Machine
end

