-- ==== Sys2Proof/Machine/Reset.lean ====
section
/-! DEFINITION. Hardware reset and start-up (sections 2.7, 7.10, 10.2): HARDWARE_RESET, RESET_ASSERTED_OR_POWER_LOST and
QUIET_PERIOD_END. -/

namespace Sys2Proof.Machine

/-! ### Nonvolatile memory at a reset -/

/-- A reset ends a store at once (R45): the profile being written fails its check. -/
def ProfileTable.cutShort (p : ProfileTable) : ProfileTable :=
  match p.store with
  | some r =>
    { p with store := none,
             stored := if h : r.written < 32 then p.stored.set r.written { p.stored.get ⟨r.written, h⟩ with checkAgrees := false }
                       else p.stored }
  | none => p

/-- A reset ends a Write Config at once (R183): the stored record is partly written and fails its check. -/
def Configuration.cutShort (c : Configuration) : Configuration :=
  if c.write.isSome then { c with write := none, checkAgrees := false } else c

/-- The configuration record is judged and loaded (R180). -/
def Configuration.load (c : Configuration) : Configuration :=
  if c.checkAgrees ∧ configPasses c.stored then
    { c with running := Running.ofRecord c.stored, status := .loaded, defaultsFlag := false }
  else { c with running := Running.defaults, status := .bad, defaultsFlag := true }

/-- A stored profile is examined and loaded (R44). -/
def StoredProfile.load (p : StoredProfile) : Profile :=
  if p.checkAgrees ∧ (p.valid → p.fields.passes) then { valid := p.valid, fields := p.fields, status := .stored }
  else { valid := false, fields := .zeros, status := .lost }

/-- Each of the 32 stored profiles is loaded into its working profile (R44). -/
def ProfileTable.load (p : ProfileTable) : ProfileTable := { p with working := p.stored.map StoredProfile.load }

/-! ### The part's volatile state at a reset -/

/-- Every block at its reset values (R1, R74, R94, R118, R142, R156, R158, R173), with nothing being written; CL_SEL keeps
its level, and an open transaction shifts 0x00 (R158, log 10). The nonvolatile memory and what was loaded from it stay. -/
def State.clearVolatile (s : State) : State :=
  { s with
    now := 0,
    table := { records := [], mark := .armed },
    profiles := s.profiles.cutShort,
    heads := Vector.replicate 8 Head.atReset,
    power := { startRefs := Vector.replicate 8 none, account := none },
    sched := Scheduler.atReset,
    gen := { enable := false, connected := none, code := 0, tank := .off },
    cell := Cell.atReset,
    cellLink := LinkState.atReset, inspLink := LinkState.atReset,
    port := { transaction := s.port.transaction.map fun _ => .filler, dout := 0, ahead := false },
    txSince := none,
    events := eventsAtReset s.config.running.levels,
    config := s.config.cutShort,
    driven := [] }

/-- A hardware reset (R180, R181): every block is reset, the configuration record and the stored profiles are loaded, the
transfer of code 0 is sent (R156), and the quiet period begins at time 0. -/
def hardwareReset (s : State) : State :=
  let s := s.clearVolatile
  let config := s.config.load
  { s with phase := .quiet, config := config, profiles := s.profiles.load, events := eventsAtReset config.running.levels,
           driven := [.transfer (codeDigits 0)] }

/-- HARDWARE_RESET. -/
def execHardwareReset (s : State) : Host.Outcome State Fault Refusal := .next (hardwareReset s)

/-- RST_N goes low or power fails (R183, R45): a store or config write in progress ends at once with no answer, and the
part is held in reset. DESIGN CHOICE (log 9): the volatile state stands at its reset values while it is held. -/
def resetAsserted (s : State) : State := { s.clearVolatile with phase := .held }

/-- RESET_ASSERTED_OR_POWER_LOST. -/
def execResetAssertedOrPowerLost (s : State) : Host.Outcome State Fault Refusal := .next (resetAsserted s)

/-- QUIET_PERIOD_END (R181): 20 ms after the reset each receiver becomes WAITING and the part operates; ATTN takes its
level (R175). -/
def quietPeriodEnd (t : Nat) (s : State) : State :=
  if s.phase = .quiet then
    let s := s.arrive t Config.quietTime
    { ((s.setReceiver .cell .waiting).setReceiver .inspection .waiting) with phase := .operating }
  else s.arrive t 0

def execQuietPeriodEnd (t : Nat) (s : State) : Host.Outcome State Fault Refusal := whileOutOfReset (quietPeriodEnd t) s

end Sys2Proof.Machine
end

