-- ==== Sys2Proof/Machine/Dispatch.lean ====
section
/-! DEFINITION. One arm for each command. -/

namespace Sys2Proof.Machine

def exec (i : Instr) (s : State) : Host.Outcome State Fault Refusal :=
  match i with
  | .hardwareReset => Sys2Proof.Machine.execHardwareReset s
  | .quietPeriodEnd t => Sys2Proof.Machine.execQuietPeriodEnd t s
  | .resetAssertedOrPowerLost => Sys2Proof.Machine.execResetAssertedOrPowerLost s
  | .createJoints t l tag serial entries => Sys2Proof.Machine.execCreateJoints t l tag serial entries s
  | .lookup t l tag key => Sys2Proof.Machine.execLookup t l tag key s
  | .find t l tag code mask states start => Sys2Proof.Machine.execFind t l tag code mask states start s
  | .bind t l tag key head => Sys2Proof.Machine.execBind t l tag key head s
  | .unbind t l tag key => Sys2Proof.Machine.execUnbind t l tag key s
  | .setVerdict t l tag key verdict => Sys2Proof.Machine.execSetVerdict t l tag key verdict s
  | .rearm t l tag key => Sys2Proof.Machine.execRearm t l tag key s
  | .retire t l tag key => Sys2Proof.Machine.execRetire t l tag key s
  | .retireMatching t l tag code mask => Sys2Proof.Machine.execRetireMatching t l tag code mask s
  | .writeProfile t l tag number flag fields => Sys2Proof.Machine.execWriteProfile t l tag number flag fields s
  | .readProfile t l tag number => Sys2Proof.Machine.execReadProfile t l tag number s
  | .storeProfiles t l tag => Sys2Proof.Machine.execStoreProfiles t l tag s
  | .storedProfileWritten t => Sys2Proof.Machine.execStoredProfileWritten t s
  | .storeProfilesComplete t => Sys2Proof.Machine.execStoreProfilesComplete t s
  | .abort t l tag head => Sys2Proof.Machine.execAbort t l tag head s
  | .periodClose t h clampHigh => Sys2Proof.Machine.execPeriodClose t h clampHigh s
  | .coolingTimerExpiry t h => Sys2Proof.Machine.execCoolingTimerExpiry t h s
  | .writeSlots t l tag set entries => Sys2Proof.Machine.execWriteSlots t l tag set entries s
  | .readSlots t l tag set => Sys2Proof.Machine.execReadSlots t l tag set s
  | .switchSlots t l tag set => Sys2Proof.Machine.execSwitchSlots t l tag set s
  | .writePriority t l tag entries => Sys2Proof.Machine.execWritePriority t l tag entries s
  | .writeGroup t l tag group members => Sys2Proof.Machine.execWriteGroup t l tag group members s
  | .slotStart t => Sys2Proof.Machine.execSlotStart t s
  | .guardEnd t => Sys2Proof.Machine.execGuardEnd t s
  | .tankMeasurementBegin t => Sys2Proof.Machine.execTankMeasurementBegin t s
  | .tankMeasurementEnd t => Sys2Proof.Machine.execTankMeasurementEnd t s
  | .slotEnd t order => Sys2Proof.Machine.execSlotEnd t order s
  | .enableHead t l tag head => Sys2Proof.Machine.execEnableHead t l tag head s
  | .disableHead t l tag head => Sys2Proof.Machine.execDisableHead t l tag head s
  | .clearFault t l tag head => Sys2Proof.Machine.execClearFault t l tag head s
  | .readHead t l tag head => Sys2Proof.Machine.execReadHead t l tag head s
  | .readingReceived t h cls temp parityOk spansClose => Sys2Proof.Machine.execReadingReceived t h cls temp parityOk spansClose s
  | .feederPulse t h => Sys2Proof.Machine.execFeederPulse t h s
  | .flowPulse t h => Sys2Proof.Machine.execFlowPulse t h s
  | .flowWindowClose t h => Sys2Proof.Machine.execFlowWindowClose t h s
  | .start t l tag => Sys2Proof.Machine.execStart t l tag s
  | .stop t l tag => Sys2Proof.Machine.execStop t l tag s
  | .haltAll t l tag => Sys2Proof.Machine.execHaltAll t l tag s
  | .clearTrip t l tag => Sys2Proof.Machine.execClearTrip t l tag s
  | .readCell t l tag => Sys2Proof.Machine.execReadCell t l tag s
  | .dcLinkSample t millivolts warningFirst => Sys2Proof.Machine.execDcLinkSample t millivolts warningFirst s
  | .faultLineSample t low => Sys2Proof.Machine.execFaultLineSample t low s
  | .readEvents t l tag => Sys2Proof.Machine.execReadEvents t l tag s
  | .acknowledgeEvents t l tag kinds => Sys2Proof.Machine.execAcknowledgeEvents t l tag kinds s
  | .setLevels t l tag pairs => Sys2Proof.Machine.execSetLevels t l tag pairs s
  | .writeConfig t l tag record => Sys2Proof.Machine.execWriteConfig t l tag record s
  | .writeConfigComplete t => Sys2Proof.Machine.execWriteConfigComplete t s
  | .readConfig t l tag => Sys2Proof.Machine.execReadConfig t l tag s
  | .identify t l tag => Sys2Proof.Machine.execIdentify t l tag s
  | .unknownRequest t l tag code => Sys2Proof.Machine.execUnknownRequest t l tag code s
  | .frameWrongLength t l length => Sys2Proof.Machine.execFrameWrongLength t l length s
  | .frameCheckFailure t l => Sys2Proof.Machine.execFrameCheckFailure t l s
  | .frameBrokenOff t l => Sys2Proof.Machine.execFrameBrokenOff t l s
  | .linkByteCompletes t l byte => Sys2Proof.Machine.execLinkByteCompletes t l byte s
  | .answerSent t l => Sys2Proof.Machine.execAnswerSent t l s
  | .transactionBegin t => Sys2Proof.Machine.execTransactionBegin t s
  | .transactionEnd t => Sys2Proof.Machine.execTransactionEnd t s

end Sys2Proof.Machine
end

