-- ==== Sys2Proof/Safety.lean ====
section
/-! DEFINITION. What the statements are made of: which parts of the state two states share, when a link hands a request
to its block, and the invariants of the part, each named after the rules it holds. -/

namespace Sys2Proof.Machine

/-! ### Frames -/

/-- The parts of the state, the two links and IL_TX under one name. The queue of waiting commands is no part: no command touches it. -/
inductive Part where
  | phase | now | table | profiles | heads | power | sched | gen | cell | links | port | events | config | driven
  deriving DecidableEq, Repr

/-- Two states share a part. -/
def State.shares (p : Part) (s s' : State) : Prop :=
  match p with
  | .phase => s'.phase = s.phase
  | .now => s'.now = s.now
  | .table => s'.table = s.table
  | .profiles => s'.profiles = s.profiles
  | .heads => s'.heads = s.heads
  | .power => s'.power = s.power
  | .sched => s'.sched = s.sched
  | .gen => s'.gen = s.gen
  | .cell => s'.cell = s.cell
  | .links => s'.cellLink = s.cellLink ∧ s'.inspLink = s.inspLink ∧ s'.txSince = s.txSince
  | .port => s'.port = s.port
  | .events => s'.events = s.events
  | .config => s'.config = s.config
  | .driven => s'.driven = s.driven

/-- Nothing but the parts listed differs, and the waiting commands are the same. -/
def State.KeepsAllBut (changed : List Part) (s s' : State) : Prop :=
  s'.pending = s.pending ∧ ∀ p : Part, p ∉ changed → s.shares p s'

/-- The other link. -/
def otherLink : Link → Link
  | .cell => .inspection
  | .inspection => .cell

/-! ### Requests -/

/-- The link hands a good frame on (R162 steps 1 and 2 do not apply): the quiet period is over, the answer queue has a
place, and no request of the link is in progress. -/
abbrev State.Takes (l : Link) (s : State) : Prop :=
  s.phase = .operating ∧ (s.link l).hasPlace = true ∧ (s.link l).inProgress = none

/-- IL_TX after an answer has joined a queue: one that joins the empty queue of the Inspection Link goes out at once
(R168). -/
def State.TxFollows (l : Link) (s s' : State) : Prop :=
  s'.txSince = if l = .inspection ∧ s.inspLink.answers = [] then some s'.now else s.txSince

/-- One answer frame with this status, tag and payload has joined the queue of a link, whose receiver waits; the other
link is as it was. -/
def State.Answers (l : Link) (st : Status) (tag : Byte) (payload : List Byte) (s s' : State) : Prop :=
  s'.link l = { s.link l with receiver := .waiting, answers := (s.link l).answers ++ [answerFrame st tag payload] } ∧
  s'.link (otherLink l) = s.link (otherLink l) ∧ s.TxFollows l s'

/-- The command was taken at its time, at once if that has passed (log 1), and drove these line actions (log 21): the
model's own account of when and in what order, on which no rule of the spec rests. -/
def State.Took (t : Nat) (driven : List LineAction) (s s' : State) : Prop := s'.now = max s.now t ∧ s'.driven = driven

/-- The record that holds a key becomes `j`; every other record, every slot and the mark stay. -/
def State.RecordBecomes (k : Key) (j : Joint) (s s' : State) : Prop :=
  s'.table = { s.table with records := s.table.records.map fun x => if x.2.key = k then (x.1, j) else x }

/-- One head record becomes `hd`, the seven others stay. -/
def State.HeadBecomes (h : Fin 8) (hd : Head) (s s' : State) : Prop := s'.heads = s.heads.set h hd

/-- These event kinds have been raised, once each, and the others stay (R174). -/
def State.RaisedExactly (kinds : List EventKind) (s s' : State) : Prop :=
  ∀ k : Fin 9, s'.events.get k = if k ∈ kinds.map EventKind.code then (s.events.get k).raised else s.events.get k

/-- These event kinds have been raised, each as many times as it is listed, and the others stay (R174). -/
def State.RaisedCounting (kinds : List EventKind) (s s' : State) : Prop :=
  ∀ k : Fin 9, s'.events.get k = EventEntry.raised^[(kinds.map EventKind.code).count k] (s.events.get k)

/-- A command that found nothing to act on was taken: nothing but the time differs (log 5). -/
def State.Idles (t : Nat) (s s' : State) : Prop := s.Took t [] s' ∧ s.KeepsAllBut [.now, .driven] s'

/-- A request has been taken and answered: the answer, the time, no line driven, and the frame: the links and the parts
listed alone may differ. -/
def State.Replied (t : Nat) (l : Link) (tag : Byte) (st : Status) (payload : List Byte) (changed : List Part)
    (s s' : State) : Prop :=
  s.Answers l st tag payload s' ∧ s.Took t [] s' ∧ s.KeepsAllBut ([.now, .driven, .links] ++ changed) s'

/-! ### Which command comes over which link -/

/-- The time, the link and the tag of a request command. -/
def arrivalOf : Instr → Option (Nat × Link × Byte)
  | .createJoints t l tag _ _ | .lookup t l tag _ | .find t l tag _ _ _ _ | .bind t l tag _ _ | .unbind t l tag _
  | .setVerdict t l tag _ _ | .rearm t l tag _ | .retire t l tag _ | .retireMatching t l tag _ _
  | .writeProfile t l tag _ _ _ | .readProfile t l tag _ | .storeProfiles t l tag | .abort t l tag _
  | .writeSlots t l tag _ _ | .readSlots t l tag _ | .switchSlots t l tag _ | .writePriority t l tag _
  | .writeGroup t l tag _ _ | .enableHead t l tag _ | .disableHead t l tag _ | .clearFault t l tag _
  | .readHead t l tag _ | .start t l tag | .stop t l tag | .haltAll t l tag | .clearTrip t l tag | .readCell t l tag
  | .readEvents t l tag | .acknowledgeEvents t l tag _ | .setLevels t l tag _ | .writeConfig t l tag _
  | .readConfig t l tag | .identify t l tag => some (t, l, tag)
  | .hardwareReset | .quietPeriodEnd _ | .resetAssertedOrPowerLost | .storedProfileWritten _
  | .storeProfilesComplete _ | .periodClose _ _ _ | .coolingTimerExpiry _ _ | .slotStart _ | .guardEnd _
  | .tankMeasurementBegin _ | .tankMeasurementEnd _ | .slotEnd _ _ | .readingReceived _ _ _ _ _ _
  | .feederPulse _ _ | .flowPulse _ _ | .flowWindowClose _ _ | .dcLinkSample _ _ _ | .faultLineSample _ _
  | .writeConfigComplete _ | .unknownRequest _ _ _ _ | .frameWrongLength _ _ _ | .frameCheckFailure _ _
  | .frameBrokenOff _ _ | .linkByteCompletes _ _ _ | .answerSent _ _ | .transactionBegin _ | .transactionEnd _ => none

/-- Everything that reaches the part over the Inspection Link: a request, a frame that is none, a byte, an answer gone. -/
def comesOverInspection (i : Instr) : Bool :=
  match arrivalOf i with
  | some (_, l, _) => l = .inspection
  | none => match i with
    | .unknownRequest _ l _ _ | .frameWrongLength _ l _ | .frameCheckFailure _ l | .frameBrokenOff _ l
    | .linkByteCompletes _ l _ | .answerSent _ l => l = .inspection
    | _ => false

/-- The head at which an event comes: a period close, a timer, a reading, a feeder pulse, a flow pulse or window. -/
def headOfEvent : Instr → Option (Fin 8)
  | .periodClose _ h _ | .coolingTimerExpiry _ h | .readingReceived _ h _ _ _ _ | .feederPulse _ h | .flowPulse _ h
  | .flowWindowClose _ h => some h
  | _ => none

/-! ### The start of a heating -/

/-- A record whose heating starts (R49), at a head with this filtered temperature and under a profile with this target: in RAMP
from the temperature, from the target where that is lower, and from 250 °C where the temperature is absent. -/
def Joint.started (temp : Option Nat) (target : Nat) (j : Joint) : Joint :=
  { j with
    state := .ramp, integral := 0, phaseElapsed := 0, soaked := 0, feedAcc := 0, fillerFed := 0, lastGrant := none,
    setpoint := some (match temp with
      | none => 250000
      | some x => min x target * 1000) }

/-! ### The ends of a heating -/

/-- A record stands REJECTED with a cause. -/
def State.StandsRejected (k : Key) (c : RejectCause) (s : State) : Prop :=
  ∃ j, s.joint k = some j ∧ j.state = .rejected ∧ j.cause = some c

/-- A head that begins to cool at a time: its timer is loaded from a cool time, or it comes to RELEASE at once where that
is 0 (R61, R62, R64); the rest of its record stays. -/
def Head.cooled (now coolTime : Nat) (hd : Head) : Head :=
  { hd with
    state := if coolTime = 0 then .release else .cooling,
    coolingUntil := if coolTime = 0 then none else some (now + coolTime * 1000) }

/-- A head stands in FAULT with a cause, with no joint bound and no timer running (R135). -/
def State.StandsFaulted (h : Fin 8) (c : FaultCause) (s : State) : Prop :=
  (s.head h).state = .fault ∧ (s.head h).faultCause = some c ∧ (s.head h).bound = none ∧ (s.head h).coolingUntil = none

/-- The last four entries of a list of readings (R123). -/
def lastFour (w : List Nat) : List Nat := w.drop (w.length - 4)

/-- The mean of a window that is not empty, rounded half up (R123). -/
def roundedMean (w : List Nat) : Nat := (w.sum + w.length / 2) / w.length

/-- The temperature T of a window, none while it is empty (R123). -/
def meanOf (w : List Nat) : Option Nat := if w = [] then none else some (roundedMean w)

/-- The value with which a period's reading is accepted; none for a missed period (R122). -/
def countsAs : Option Reading → Option Nat
  | some (.valid x) => some x
  | some .under => some 250
  | some .over => some 1150
  | some .bad | none => none

/-- A record that sees the reading of a period (R125). -/
def Joint.withReading (x : Option Nat) (j : Joint) : Joint :=
  match x with
  | some x => { j with lastTemp := some x, peakTemp := some (max x (j.peakTemp.getD x)) }
  | none => j

/-- A head after a close at time `now` whose reading counts as `x` and whose clamp sample completes no run: the window and
the missed-period count (R123, R124), nothing kept, no step waiting (R134), the clamp filter (R126). -/
def Head.afterClose (x : Option Nat) (clampHigh : Bool) (now : Nat) (hd : Head) : Head :=
  { hd with
    window := match x with | some x => lastFour (hd.window ++ [x]) | none => hd.window,
    missed := match x with | some _ => 0 | none => min 15 (hd.missed + 1),
    kept := none, stepsWaiting := 0, closeDue := now + 2000,
    clampCount := if clampHigh = hd.clampClosed then 0 else hd.clampCount + 1 }

/-- A clamp sample that completes no run of the filter's length (R126). -/
abbrev Head.clampHolds (clampHigh : Bool) (filter : Nat) (hd : Head) : Prop :=
  clampHigh = hd.clampClosed ∨ hd.clampCount + 1 < filter

/-! ### The output at the end of a heating -/

/-- The energy of a record after an event at time `now` that cuts its output, if it has one: the demand for the whole ms
since the guard end is added, up to 61,470,000 mJ (R87, R89; log 3, log 32). -/
def State.energyAfterCut (s : State) (now : Nat) (j : Joint) : Nat :=
  match s.power.account with
  | some a => if a.joint = j.key then min 61470000 (j.energy + a.demand * ((now - a.since) / 1000)) else j.energy
  | none => j.energy

/-- What an output that goes off does on the lines, in order: code 0 is loaded, then the switch opens (R105, R156). -/
def State.offActions (s : State) : List LineAction :=
  (if s.gen.code = 0 then [] else [.transfer (List.replicate 12 false)]) ++
  (if s.gen.connected = none then [] else [.connect none])

/-- What becomes of the output where a head stops heating (R106): one that is this head's is cut, code 0 before the switch,
with its account closed and the current slot recorded as cut, after the line actions before it; any other stays. -/
def State.OutputCutFor (h : Fin 8) (before : List LineAction) (s s' : State) : Prop :=
  if s.grantedTo h then
    s'.gen = { s.gen with code := 0, connected := none, tank := .off } ∧ s'.power = { s.power with account := none } ∧
    s'.driven = before ++ s.offActions ∧
    s'.sched = { s.sched with current := s.sched.current.map fun c => { c with cut := true } }
  else s'.gen = s.gen ∧ s'.power = s.power ∧ s'.driven = before ∧ s'.sched = s.sched

/-- The heating of a bound record ends: the record becomes `j` with the energy of its output so far (R89), and the output is
off if it was this head's (R60, R61, R106), after these pulses. -/
def State.EndsHeating (h : Fin 8) (k : Key) (j : Joint) (pulses : List LineAction) (s s' : State) : Prop :=
  s.RecordBecomes k { j with energy := s.energyAfterCut s'.now j } s' ∧ s.OutputCutFor h pulses s'

/-- Every heating joint is rejected with a cause and charged for its output so far, its head cools it, and every other
record and head stays, as do the slots, the keys and the mark (R60, R62, R89, R147, R153). -/
def State.HeatingRejected (c : RejectCause) (s s' : State) : Prop :=
  (∀ x ∈ s.table.records, x.2.state.heating = true →
    s'.joint x.2.key = some { x.2 with
      state := .rejected, cause := some c, energy := s.energyAfterCut s'.now x.2 } ∧
    ∃ h, x.2.head = some h ∧ (s.head h).bound = some x.2.key ∧
      s'.head h = (s.head h).cooled s'.now (s.profileOf x.2).fields.coolTime) ∧
  (∀ x ∈ s.table.records, x.2.state.heating = false → x ∈ s'.table.records) ∧
  (∀ h : Fin 8, (s.head h).state ≠ .heating → s'.head h = s.head h) ∧
  s'.table.records.map (fun x => (x.1, x.2.key)) = s.table.records.map (fun x => (x.1, x.2.key)) ∧
  s'.table.mark = s.table.mark

/-- The events of a command that rejects every heating joint: JOINT REJECTED once for each of them, and SLOTS SWITCHED where
a pending switch takes effect with it (R112, R147, R153). -/
def State.rejectionEvents (s : State) : List EventKind :=
  List.replicate (s.table.records.countP fun x => x.2.state.heating) .jointRejected ++
  (if s.sched.switchTo.isSome then [.slotsSwitched] else [])

/-- The output ends with the run (R97, R156): every line is low, and what had to change did so in order, code 0, then the
switch, then GEN. -/
def State.OutputEnds (s s' : State) : Prop :=
  s'.gen = { enable := false, connected := none, code := 0, tank := .off } ∧
  s'.driven = s.offActions ++ (if s.gen.enable then [.enable false] else [])

/-! ### The Joint Table (R1, R2) -/

/-- The slots rise and lie below 512, no two records hold one key (R1), and the mark agrees with the live count (R2). -/
abbrev State.TableOk (s : State) : Prop :=
  (s.table.records.Pairwise fun x y => x.1 < y.1) ∧
  (∀ x ∈ s.table.records, x.1 < 512) ∧
  (s.table.records.Pairwise fun x y => x.2.key ≠ y.2.key) ∧
  (s.table.mark = .armed → s.liveCount < 480) ∧
  (s.table.mark = .raised → 448 < s.liveCount)

/-! ### Records (R6, R23, R87, R51, R125) -/

/-- A verdict is held in DONE or REJECTED alone, a reject cause in REJECTED exactly (R6), and the counters, the energy and
the temperatures lie in the ranges of section 1.2. -/
abbrev Joint.Ok (j : Joint) : Prop :=
  (j.verdict.isSome → j.state = .done ∨ j.state = .rejected) ∧
  (j.cause.isSome ↔ j.state = .rejected) ∧
  j.reheats ≤ 2 ∧ j.energy ≤ 61470000 ∧ j.phaseElapsed ≤ 65535 ∧
  (j.lastTemp.isSome ↔ j.peakTemp.isSome) ∧
  (∀ x ∈ j.lastTemp, 250 ≤ x ∧ x ≤ 1150 ∧ ∀ y ∈ j.peakTemp, x ≤ y ∧ y ≤ 1150)

abbrev State.RecordsOk (s : State) : Prop := ∀ x ∈ s.table.records, x.2.Ok

/-! ### Head records (R118, R123) -/

/-- A kept reading of class VALID lies in the accepted range (R121). -/
def Reading.ok : Reading → Bool
  | .valid x => within 250 1150 x
  | .under | .over | .bad => true

/-- The fields of a head record lie in the ranges of R118. -/
abbrev Head.RangesOk (hd : Head) : Prop :=
  hd.window.length ≤ 4 ∧ (∀ x ∈ hd.window, 250 ≤ x ∧ x ≤ 1150) ∧ (∀ r ∈ hd.kept, r.ok = true) ∧
  hd.missed ≤ 15 ∧ hd.clampCount ≤ 15 ∧ hd.flowPulses ≤ 255 ∧ (∀ n ∈ hd.lastFlow, n ≤ 255) ∧
  hd.lowFlow ≤ 2 ∧ hd.tankMiss ≤ 2

abbrev State.HeadRangesOk (s : State) : Prop :=
  (∀ h : Fin 8, (s.head h).RangesOk) ∧ s.config.running.clampFilter ≤ 16

/-! ### Bindings (R5) and the pairs of section 3.1 -/

/-- The states of a bound record that pair with a head state; none where the head has no binding. -/
def HeadState.pairs : HeadState → Option (List JointState)
  | .off | .idle | .fault => none
  | .loaded => some [.placed]
  | .heating => some [.ramp, .soak, .feed]
  | .cooling => some [.cool, .rejected]
  | .release => some [.done, .rejected]

/-- A head's binding: a head in LOADED, HEATING, COOLING or RELEASE is bound to a record that names it, in a state that
pairs with the head's; any other head has none (R5). Its timer runs in COOLING alone, its cause stands in FAULT alone. -/
def State.headBindingOk (s : State) (h : Fin 8) : Bool :=
  (match (s.head h).state.pairs, (s.head h).bound with
   | none, none => true
   | some states, some k => (s.joint k).any fun j => j.head = some h ∧ j.state ∈ states
   | none, some _ | some _, none => false) &&
  ((s.head h).coolingUntil.isSome = decide ((s.head h).state = .cooling)) &&
  ((s.head h).faultCause.isSome = decide ((s.head h).state = .fault))

/-- A record's binding: the head it names is bound to it, a PLANNED record names none, and a record in PLACED, RAMP, SOAK,
FEED or COOL names one (R5). -/
def State.jointBindingOk (s : State) (j : Joint) : Bool :=
  match j.head with
  | some h => (s.head h).bound = some j.key ∧ j.state ≠ .planned
  | none => j.state = .planned ∨ j.state = .done ∨ j.state = .rejected

/-- Bindings are mutual (R5). -/
abbrev State.BindingsOk (s : State) : Prop :=
  (∀ h : Fin 8, s.headBindingOk h = true) ∧ ∀ x ∈ s.table.records, s.jointBindingOk x.2 = true

/-- No joint is heating while the cell is HOLD or TRIPPED (R70). -/
abbrev State.HeatingOnlyRunning (s : State) : Prop :=
  ∀ x ∈ s.table.records, x.2.state.heating = true → s.cell.state.running = true

/-! ### The cell (R142, R145, R149, R156) -/

/-- The causes are non-empty exactly in TRIPPED, the warning flag is up exactly on the LOW side and says which of RUN and
DERATED can stand, the run counts and the voltage lie in their ranges (R142); an asserted line or a link below the trip
side holds the cell tripped (R149), a clear flag stands in TRIPPED alone; GEN is high exactly in RUN and DERATED (R156). -/
abbrev State.CellOk (s : State) : Prop :=
  (s.cell.state = .tripped ↔ s.cell.causeSupply = true ∨ s.cell.causeGenerator = true) ∧
  s.cell.warning = s.cell.warningLow ∧
  (s.cell.state = .run → s.cell.warning = false) ∧ (s.cell.state = .derated → s.cell.warning = true) ∧
  s.cell.warningCount ≤ 3 ∧ s.cell.tripCount ≤ 3 ∧ (∀ v ∈ s.cell.lastVolts, v ≤ 1023) ∧
  (s.cell.faultLine = true → s.cell.causeGenerator = true ∧ s.cell.clearFlag = false) ∧
  (s.cell.tripBelow = true → s.cell.causeSupply = true) ∧
  (s.cell.clearFlag = true → s.cell.state = .tripped) ∧
  s.gen.enable = s.cell.state.running

/-! ### The scheduler (R94, R95, R97, R115) -/

/-- A group holds at most eight distinct heads, and its pointer names a member, none exactly while it is empty (R94). -/
abbrev RobinGroup.Ok (g : RobinGroup) : Prop :=
  g.members.length ≤ 8 ∧ g.members.Nodup ∧ (∀ h ∈ g.pointer, h ∈ g.members) ∧ (g.pointer = none ↔ g.members = [])

/-- The lists lie within their sizes (R94); a pending switch names a set that is not active and not empty (R111); slots run
exactly in RUN and DERATED, over a frame that has entries and holds the position, in a slot, awaiting its start, or with the
tank judgement of a slot end still to be made (R95, R96, R133; log 35); otherwise the position is 0 and no switch is pending
(R97). -/
abbrev State.SchedOk (s : State) : Prop :=
  s.sched.setA.length ≤ 16 ∧ s.sched.setB.length ≤ 16 ∧ s.sched.priority.length ≤ 8 ∧
  (s.sched.priority.map SlotEntry.head).Nodup ∧ s.sched.group1.Ok ∧ s.sched.group2.Ok ∧
  (∀ n ∈ s.sched.switchTo, n ≠ s.sched.active ∧ s.sched.entries n ≠ []) ∧
  (if s.cell.state.running then
     s.sched.position < (s.sched.entries s.sched.active).length ∧
     (s.sched.current.isSome = true → s.sched.startDue = none ∧ s.sched.judging = none) ∧
     (s.sched.startDue = none → s.sched.current.isSome = true ∨ s.sched.judging.isSome = true)
   else s.sched.position = 0 ∧ s.sched.current = none ∧ s.sched.startDue = none ∧ s.sched.switchTo = none)

/-! ### The output (R75, R105, R106, R132) -/

/-- The head granted by the running slot, while its output has not been cut. -/
def State.liveGrant (s : State) : Option (Fin 8) :=
  match s.sched.current with
  | some c => if c.cut then none else c.grant.map Grant.head
  | none => none

/-- A head with an uncut grant heats and is the one connected (R105, R106). An open account is that of such a head and of
the joint bound to it, its guard has ended, and its code is the one presented (R74, R75); with no account the code is 0 and
no tank is measured (R132). While slots do not run, no head is connected (R97). -/
abbrev State.OutputOk (s : State) : Prop :=
  (∀ h ∈ s.liveGrant, s.headHeats h = true ∧ s.gen.connected = some h) ∧
  (s.sched.current.isSome = true → s.liveGrant = none → s.gen.connected = none) ∧
  (∀ c ∈ s.sched.current, c.cut = true → c.grant.isSome = true) ∧
  (∀ a ∈ s.power.account, s.liveGrant = some a.head ∧ (s.head a.head).bound = some a.joint ∧ s.gen.code.toNat = a.code ∧
    s.sched.current.any fun c => c.guardEnded) ∧
  (s.power.account = none → s.gen.code = 0 ∧ s.gen.tank = .off) ∧
  (s.gen.tank ≠ .off → s.gen.code ≠ 0) ∧
  (s.cell.state.running = false → s.gen.connected = none)

/-! ### Power (R74, R83 to R85) -/

/-- The rating lies in its range, and so every integral (R83), the demand of an open account (R84) and its code (R85). -/
abbrev State.PowerOk (s : State) : Prop :=
  5000 ≤ s.config.running.rating ∧ s.config.running.rating ≤ 30000 ∧ s.config.running.derate ≤ 100 ∧
  (∀ x ∈ s.table.records, x.2.integral ≤ s.config.running.rating) ∧
  (∀ a ∈ s.power.account, a.demand ≤ s.config.running.rating ∧ a.code ≤ 4095)

/-! ### Profiles (R32, R33, R44) -/

/-- A working profile whose valid flag is set passes every test of R32. -/
abbrev State.ProfilesOk (s : State) : Prop :=
  ∀ n : Fin 32, (s.profiles.working.get n).valid = true → (s.profiles.working.get n).fields.passes = true

/-- The joint of a HEATING head is heated under a valid profile (R33, R47), so its feeder works within the limits of R58 and
R134: fewer than a whole step is left over, no more than the feed length is fed, and at most two steps wait. -/
abbrev State.FeedOk (s : State) : Prop :=
  (∀ x ∈ s.table.records, x.2.state.heating = true →
    (s.profileOf x.2).valid = true ∧ x.2.feedAcc ≤ 999 ∧ x.2.soaked ≤ (s.profileOf x.2).fields.soakTime ∧
    x.2.fillerFed ≤ (s.profileOf x.2).fields.feedLength) ∧
  ∀ h : Fin 8, (s.head h).stepsWaiting ≤ 2

/-! ### Links (R158, R164, R165) and events (R173) -/

/-- A transaction that shifts an answer has shifted fewer bytes than the front answer has; none has a byte sent ahead. -/
def CellPort.ok (p : CellPort) (answers : List (List Byte)) : Bool :=
  match p.transaction with
  | some (.answer n) => n < (answers.headD []).length
  | some .filler => true
  | none => !p.ahead

/-- Each queue holds at most two answers, with a place kept for a request in progress (R165). A request in progress is the
Cell Link's, and it is the store or the configuration write under way (R164). A transaction that shifts an answer has a
byte of the front one left to shift (R166), and IL_TX goes on exactly while there is an answer (R168). -/
abbrev State.LinksOk (s : State) : Prop :=
  s.cellLink.answers.length + (if s.cellLink.inProgress.isSome then 1 else 0) ≤ 2 ∧ s.inspLink.answers.length ≤ 2 ∧
  s.inspLink.inProgress = none ∧
  (s.profiles.store.isSome = true ↔ s.cellLink.inProgress.any (fun p => p.request = .storeProfiles) = true) ∧
  (s.config.write.isSome = true ↔ s.cellLink.inProgress.any (fun p => p.request = .writeConfig) = true) ∧
  (∀ a ∈ s.cellLink.answers, 5 ≤ a.length) ∧ (∀ a ∈ s.inspLink.answers, 5 ≤ a.length) ∧
  s.port.ok s.cellLink.answers = true ∧
  (s.txSince.isSome = true ↔ s.inspLink.answers ≠ [])

/-- A kind's flag is set exactly while its count is above 0, and the count is at most 255 (R173, R174). -/
abbrev State.EventsOk (s : State) : Prop :=
  ∀ k : Fin 9, ((s.events.get k).pending = true ↔ 0 < (s.events.get k).count) ∧ (s.events.get k).count ≤ 255

/-! ### The quiet period (R181) -/

/-- Until the quiet period ends the links hold nothing, the table is empty, every head is as reset left it but for its
period timer, the scheduler is as R94 leaves it, the output lines are low, and the cell does not run (R157, R181). -/
abbrev State.QuietOk (s : State) : Prop :=
  s.phase ≠ .operating →
    s.cellLink = LinkState.atReset ∧ s.inspLink = LinkState.atReset ∧ s.txSince = none ∧
    s.table = { records := [], mark := .armed } ∧
    (∀ h : Fin 8, s.head h = { Head.atReset with closeDue := (s.head h).closeDue }) ∧
    s.sched = Scheduler.atReset ∧ s.power = { startRefs := Vector.replicate 8 none, account := none } ∧
    s.gen = { enable := false, connected := none, code := 0, tank := .off } ∧
    s.cell.state.running = false

end Sys2Proof.Machine
end

