-- ==== Sys2Proof/WellFormed.lean ====
section
/-! DEFINITION. The commands that can arise: a request whose payload a frame can carry, and the two frame events
whose byte is of the kind the event is about. -/

namespace Sys2Proof

/-- Whether a command's payload has a length its request's row of the catalogue allows (R162 step 5, R169). -/
def payloadSuits (i : Instr) : Bool :=
  match encodeRequest i with
  | some (c, p) => c.lengthSuits p.length
  | none => true

/-- Whether a command can arise. -/
def Instr.wellFormed (i : Instr) : Bool :=
  payloadSuits i &&
  match i with
  | .unknownRequest _ _ _ code => (requestCodeOf code).isNone
  | .frameWrongLength _ _ length => Config.payloadMax < length.toNat
  | .hardwareReset | .quietPeriodEnd _ | .resetAssertedOrPowerLost | .createJoints _ _ _ _ _ | .lookup _ _ _ _
  | .find _ _ _ _ _ _ _ | .bind _ _ _ _ _ | .unbind _ _ _ _ | .setVerdict _ _ _ _ _ | .rearm _ _ _ _
  | .retire _ _ _ _ | .retireMatching _ _ _ _ _ | .writeProfile _ _ _ _ _ _ | .readProfile _ _ _ _
  | .storeProfiles _ _ _ | .storedProfileWritten _ | .storeProfilesComplete _ | .abort _ _ _ _
  | .periodClose _ _ _ | .coolingTimerExpiry _ _ | .writeSlots _ _ _ _ _ | .readSlots _ _ _ _
  | .switchSlots _ _ _ _ | .writePriority _ _ _ _ | .writeGroup _ _ _ _ _ | .slotStart _ | .guardEnd _
  | .tankMeasurementBegin _ | .tankMeasurementEnd _ | .slotEnd _ _ | .enableHead _ _ _ _ | .disableHead _ _ _ _
  | .clearFault _ _ _ _ | .readHead _ _ _ _ | .readingReceived _ _ _ _ _ _ | .feederPulse _ _ | .flowPulse _ _
  | .flowWindowClose _ _ | .start _ _ _ | .stop _ _ _ | .haltAll _ _ _ | .clearTrip _ _ _ | .readCell _ _ _
  | .dcLinkSample _ _ _ | .faultLineSample _ _ | .readEvents _ _ _ | .acknowledgeEvents _ _ _ _
  | .setLevels _ _ _ _ | .writeConfig _ _ _ _ | .writeConfigComplete _ | .readConfig _ _ _ | .identify _ _ _
  | .frameCheckFailure _ _ | .frameBrokenOff _ _ | .linkByteCompletes _ _ _ | .answerSent _ _
  | .transactionBegin _ | .transactionEnd _ => true

end Sys2Proof
end

