-- ==== Sys2Proof/Certificates/Slice0/Obligations.lean ====
section
/-! DEFINITION. The statements. A request's statement says everything the request can do once its link hands it on
(`State.Takes`); what the link does with a frame it does not hand on is said once, for all requests. -/

open Sys2Proof Sys2Proof.Machine

/-! ### The queue, the step, reset -/

/-- A step takes the command at the front of the queue and runs it with the queue's rest; an empty queue idles (log 2). -/
def Obligations.StepTakesTheFrontCommand : Prop :=
  ∀ (c : Instr) (rest : List Instr) (s : State),
    step { s with pending := c :: rest } = exec c { s with pending := rest } ∧
    step { s with pending := [] } = .next { s with pending := [] }

/-- No command stops the part, none touches the waiting commands, and only a reset turns the time base back.
While the part is held in reset nothing but the reset pin and CL_SEL is heeded (R181, log 9, log 10). -/
def Obligations.EveryCommandAnswersANextState : Prop :=
  (∀ (c : Instr) (s : State), ∃ s' : State, exec c s = .next s' ∧ s'.pending = s.pending ∧
     (c ≠ .hardwareReset → c ≠ .resetAssertedOrPowerLost → s.now ≤ s'.now)) ∧
  (∀ (c : Instr) (s : State), s.phase = .held → c ≠ .hardwareReset → c ≠ .resetAssertedOrPowerLost →
     (∀ t, c ≠ .transactionBegin t) → (∀ t, c ≠ .transactionEnd t) → exec c s = .next s)

/-- What a hardware reset leaves, whatever stood before: every block as R1, R2, R74, R94, R118, R142, R158 and R173 say,
code 0 sent with every line low (R156, R181), and the time base at 0.
The model's choices in it: that the code is transferred and the profiles are loaded within this command (log 20) and the transfer
is held in `driven` (log 21); that a Cell Link transaction open at the reset stays open and shifts 0x00 (log 10); that an OFF head
keeps no reading for the running period and counts no pulse in a flow window (`kept`, `flowPulses`: log 26); and the reset values
of the model's own fields, no byte ahead (`ahead`, log 11) and no judgement left (`judging`, log 35). -/
def Obligations.HardwareResetLeavesEveryBlockReset : Prop :=
  ∀ s : State, ∃ s' : State, exec .hardwareReset s = .next s' ∧ s'.pending = s.pending ∧
    s'.phase = .quiet ∧ s'.now = 0 ∧ s'.table.records = [] ∧ s'.table.mark = .armed ∧
    (∀ h : Fin 8, (s'.head h).state = .off ∧ (s'.head h).bound = none ∧ (s'.head h).faultCause = none ∧
      (s'.head h).window = [] ∧ (s'.head h).missed = 0 ∧ (s'.head h).clampClosed = false ∧ (s'.head h).clampCount = 0 ∧
      (s'.head h).lastFlow = none ∧ (s'.head h).lowFlow = 0 ∧ (s'.head h).lastTank = none ∧ (s'.head h).tankMiss = 0 ∧
      (s'.head h).coolingUntil = none ∧ (s'.head h).stepsWaiting = 0 ∧ (s'.head h).kept = none ∧
      (s'.head h).flowPulses = 0) ∧
    s'.power.account = none ∧ (∀ h : Fin 8, s'.power.startRefs.get h = none) ∧
    s'.sched.setA = [] ∧ s'.sched.setB = [] ∧ s'.sched.active = .a ∧ s'.sched.switchTo = none ∧ s'.sched.priority = [] ∧
    s'.sched.group1 = { members := [], pointer := none } ∧ s'.sched.group2 = { members := [], pointer := none } ∧
    s'.sched.position = 0 ∧ s'.sched.current = none ∧ s'.sched.startDue = none ∧ s'.sched.judging = none ∧
    s'.cell.state = .hold ∧ s'.cell.warning = false ∧ s'.cell.causeSupply = false ∧ s'.cell.causeGenerator = false ∧
    s'.cell.lastVolts = none ∧ s'.cell.clearFlag = false ∧ s'.cell.warningLow = false ∧ s'.cell.warningCount = 0 ∧
    s'.cell.tripBelow = false ∧ s'.cell.tripCount = 0 ∧ s'.cell.faultLine = false ∧
    (∀ l : Link, (s'.link l).receiver = .waiting ∧ (s'.link l).inProgress = none ∧ (s'.link l).answers = []) ∧
    s'.port = { transaction := s.port.transaction.map fun _ => .filler, dout := 0, ahead := false } ∧ s'.txSince = none ∧
    s'.gen.enable = false ∧ s'.gen.connected = none ∧ s'.gen.code = 0 ∧ s'.gen.tank = .off ∧
    s'.driven = [.transfer (List.replicate 12 false)] ∧ s'.attn = false ∧
    (∀ k : Fin 9, (s'.events.get k).pending = false ∧ (s'.events.get k).count = 0 ∧
      (s'.events.get k).level = s'.config.running.levels.get k)

/-- The stored configuration record is judged at a hardware reset (R180): in range with an agreeing check it runs, and
otherwise the defaults of R179 do; a record whose write the reset cuts short fails (R183). The stored record stays.
Each stored profile is loaded at a hardware reset as the table of R44 says; a store that the reset cuts short has
written the profiles it had completed, and the one being written is LOST (R45). That the fields of a record cut short stay
as they were is the model's choice (log 8), and so is the loading within this command (log 20). -/
def Obligations.HardwareResetLoadsTheStoredRecords : Prop :=
  (∀ s : State, ∃ s' : State, exec .hardwareReset s = .next s' ∧ s'.config.stored = s.config.stored ∧ s'.config.write = none ∧
     (if s.config.checkAgrees = true ∧ s.config.write = none ∧ configOffending s.config.stored = none then
       s'.config.status = .loaded ∧ s'.config.defaultsFlag = false ∧
       s'.config.running.headCount = s.config.stored.headCount.toNat ∧
       s'.config.running.rating = s.config.stored.rating.toNat ∧
       s'.config.running.slotLength = s.config.stored.slotLength.toNat ∧
       s'.config.running.derate = s.config.stored.derate.toNat ∧
       s'.config.running.supplyLevel.code = s.config.stored.supplyLevel.toNat ∧
       s'.config.running.clampFilter = s.config.stored.clampFilter.toNat ∧
       s'.config.running.flowMinimum = s.config.stored.flowMinimum.toNat ∧
       s'.config.running.sampleLoss = s.config.stored.sampleLoss.toNat ∧
       s'.config.running.linkSpeed.code = s.config.stored.linkSpeed.toNat ∧
       ∀ k : Fin 9, (s'.config.running.levels.get k).val = (s.config.stored.levels.get k).toNat
     else
       s'.config.status = .bad ∧ s'.config.defaultsFlag = true ∧ s'.config.running.headCount = 8 ∧
       s'.config.running.rating = 20000 ∧ s'.config.running.slotLength = 20 ∧ s'.config.running.derate = 50 ∧
       s'.config.running.supplyLevel = .m ∧ s'.config.running.clampFilter = 4 ∧ s'.config.running.flowMinimum = 10 ∧
       s'.config.running.sampleLoss = 5 ∧ s'.config.running.linkSpeed = .baud115200 ∧
       s'.config.running.levels.toList.map Fin.val = [2, 1, 0, 1, 0, 1, 2, 2, 3])) ∧
  (∀ (s : State) (n : Fin 32), ∃ s' : State, exec .hardwareReset s = .next s' ∧ s'.profiles.store = none ∧
     let stored := s.profiles.stored.get n
     let cut := s.profiles.store.any fun r => r.written = n.val
     s'.profiles.working.get n =
       if cut = false ∧ stored.checkAgrees = true ∧ (stored.valid = true → stored.fields.offending = none) then
         { valid := stored.valid, fields := stored.fields, status := .stored }
       else { valid := false, fields := .zeros, status := .lost })

/-- RST_N low or power lost (R45, R183): writes in progress end with no answer, their copies fail, the part is held. That
the volatile state, the answer queues among it, is cleared before the release is the model's choice (log 9), and so is that
a failed copy keeps its fields (log 8).
The quiet period ends 20 ms after the reset: both receivers wait, and ATTN takes the level of R175 (R181). Until then what
comes over a link is discarded, and an open transaction shifts a byte (R158); after it the event changes nothing (log 5). -/
def Obligations.ResetIsHeldAndTheQuietPeriodEnds : Prop :=
  (∀ s : State, ∃ s' : State, exec .resetAssertedOrPowerLost s = .next s' ∧ s'.pending = s.pending ∧ s'.phase = .held ∧
     s'.profiles.store = none ∧ s'.config.write = none ∧ s'.cellLink.answers = [] ∧ s'.inspLink.answers = [] ∧
     s'.config.stored = s.config.stored ∧
     (s'.config.checkAgrees = true ↔ s.config.checkAgrees = true ∧ s.config.write = none) ∧
     ∀ n : Fin 32, (s'.profiles.stored.get n).fields = (s.profiles.stored.get n).fields ∧
       ((s'.profiles.stored.get n).checkAgrees = true ↔
         (s.profiles.stored.get n).checkAgrees = true ∧ s.profiles.store.all fun r => r.written ≠ n.val)) ∧
  (∀ (t : Nat) (s : State), s.phase = .quiet → ∃ s' : State, exec (.quietPeriodEnd t) s = .next s' ∧ s'.phase = .operating ∧
     s'.now = max s.now (max t 20000) ∧ s'.cellLink = { s.cellLink with receiver := .waiting } ∧
     s'.inspLink = { s.inspLink with receiver := .waiting } ∧ s'.txSince = s.txSince ∧
     (s'.attn = true ↔ ∃ k : Fin 9, (s.events.get k).pending = true ∧ (s.events.get k).level ≠ 3) ∧
     s.KeepsAllBut [.phase, .now, .links, .driven] s') ∧
  (∀ (t : Nat) (s : State), s.phase = .operating → ∃ s' : State, exec (.quietPeriodEnd t) s = .next s' ∧ s.Idles t s') ∧
  (∀ (c : Instr) (t : Nat) (l : Link) (tag b : Byte) (s : State), s.phase = .quiet →
     arrivalOf c = some (t, l, tag) ∨ c = .unknownRequest t l tag b ∨ c = .frameWrongLength t l b ∨
       c = .frameCheckFailure t l → ∃ s' : State, exec c s = .next s' ∧ s.Idles t s') ∧
  (∀ (t : Nat) (l : Link) (b : Byte) (s : State), s.phase = .quiet → s.QuietOk →
     ∃ s' : State, exec (.linkByteCompletes t l b) s = .next s' ∧ s.Took t [] s' ∧ s.KeepsAllBut [.now, .driven, .port] s' ∧
       (l = .inspection ∨ s.port.transaction = none → s'.port = s.port) ∧
       (l = .cell → s.port.transaction = some .filler → s.port.ahead = false → s'.port = { s.port with dout := 0 }))

/-- The model's state after reset (log 6, log 26) is what a hardware reset leaves of itself, and every invariant that the
statements below keep holds in it. -/
def Obligations.ResetStateMeetsTheInvariants : Prop :=
  (exec .hardwareReset State.reset = .next State.reset) ∧
  (State.reset.TableOk ∧ State.reset.RecordsOk ∧ State.reset.HeadRangesOk ∧ State.reset.BindingsOk ∧
   State.reset.HeatingOnlyRunning ∧ State.reset.CellOk ∧ State.reset.SchedOk ∧ State.reset.OutputOk ∧
   State.reset.PowerOk ∧ State.reset.ProfilesOk ∧ State.reset.FeedOk ∧ State.reset.LinksOk ∧ State.reset.EventsOk ∧
   State.reset.QuietOk)

/-! ### Links -/

/-- What becomes of any request command (R162): discarded at a full queue, BUSY, DENIED, FRAME at a length that does not
suit, and otherwise handed to its block, whose answer joins the queue in the same event. -/
def Obligations.RequestsAreJudgedInOrder : Prop :=
  ∀ (i : Instr) (t : Nat) (l : Link) (tag : Byte) (c : RequestCode) (p : List Byte) (s : State),
    arrivalOf i = some (t, l, tag) → encodeRequest i = some (c, p) → s.phase = .operating →
    ∃ s' : State, exec i s = .next s' ∧
    ((s.link l).hasPlace = false → s.RaisedExactly [.linkError] s' ∧ s.Took t [] s' ∧
      s'.link l = { s.link l with receiver := .waiting } ∧ s'.link (otherLink l) = s.link (otherLink l) ∧
      s'.txSince = s.txSince ∧ s.KeepsAllBut [.now, .driven, .links, .events] s') ∧
    ((s.link l).hasPlace = true → (s.link l).inProgress.isSome = true → State.Replied t l tag .busy [] [] s s') ∧
    (s.Takes l → c.permittedOn l = false → State.Replied t l tag .denied [] [] s s') ∧
    (s.Takes l → c.permittedOn l = true → c.lengthSuits p.length = false →
      State.Replied t l 0 .frame [] [.events] s s' ∧ s.RaisedExactly [.linkError] s') ∧
    (s.Takes l → c.permittedOn l = true → c.lengthSuits p.length = true →
      ∃ s1 reply, requestOp i ((s.arrive t 0).setReceiver l .waiting) = (s1, reply) ∧
        s' = match reply with
          | some r => s1.queueAnswer l (answerFrame r.status tag r.payload)
          | none => s1)

/-- A request that its block refuses changes nothing, whatever the request (R7, R163). -/
def Obligations.RefusedRequestsChangeNothing : Prop :=
  ∀ (i : Instr) (s s' : State) (r : Reply), requestOp i s = (s', some r) → r.status ≠ .ok → s' = s

/-- The layouts of R170 lose nothing: what a request command travels as spells that command again. -/
def Obligations.DecodeUndoesEncode : Prop :=
  ∀ (i : Instr) (t : Nat) (l : Link) (tag : Byte) (c : RequestCode) (p : List Byte),
    arrivalOf i = some (t, l, tag) → encodeRequest i = some (c, p) → decodeRequest t l tag c p = i

/-- The last byte of a frame does what the frame's command does (R159 to R162; log 4, log 37): the request's, UNKNOWN_REQUEST's
where the code names no request, FRAME_WRONG_LENGTH's at a length byte above 250 and FRAME_CHECK_FAILURE's at a check byte that
disagrees. The frame's other bytes are held, none more than 5 ms ago (a later byte finds the frame broken off: BytesAreCollected),
and on the Cell Link a transaction is open, in which a byte goes out first and an answer wholly sent leaves last (R166; log 11,
log 33). A good frame whose payload does not suit its request is judged by steps 1 to 5 of R162.
What a frame is: its layout and its check byte (R160, R170), the status codes (R163), and of each request the code, the links and
the lengths (R169). -/
def Obligations.LastByteOfAFrameIsItsRequest : Prop :=
  (∀ (t : Nat) (l : Link) (tag : Byte) (c : RequestCode) (p held : List Byte) (b : Byte) (lastAt : Nat) (s : State),
     s.phase = .operating → c.lengthSuits p.length = true → (s.link l).receiver = .collecting held lastAt →
     held ++ [b] = frameBytes c.toByte tag p → max s.now t ≤ lastAt + 5000 →
     (l = .cell → s.port.transaction.isSome = true) →
     ∃ s' : State, exec (decodeRequest t l tag c p) (match l with | .cell => s.byteOut | .inspection => s) = .next s' ∧
       exec (.linkByteCompletes t l b) s =
         .next (if l = .cell ∧ s.port.ahead = false then s'.answerLeaves else s')) ∧
  (∀ (t : Nat) (l : Link) (held : List Byte) (b : Byte) (lastAt : Nat) (i : Instr) (s : State),
     s.phase = .operating → (s.link l).receiver = .collecting held lastAt → max s.now t ≤ lastAt + 5000 →
     (l = .cell → s.port.transaction.isSome = true) →
     (i = .frameWrongLength t l b ∧ held.length = 1 ∧ 250 < b.toNat) ∨
       (i = .frameCheckFailure t l ∧ 2 ≤ held.length ∧ held.length = (byteAt held 1).toNat + 4 ∧ b ≠ crc8 (held.drop 1)) ∨
       (∃ code tag p, i = .unknownRequest t l tag code ∧ p.length ≤ 250 ∧ held ++ [b] = frameBytes code tag p ∧
         ∀ c : RequestCode, c.toByte ≠ code) →
     ∃ s' : State, exec i (match l with | .cell => s.byteOut | .inspection => s) = .next s' ∧
       exec (.linkByteCompletes t l b) s =
         .next (if l = .cell ∧ s.port.ahead = false then s'.answerLeaves else s')) ∧
  (∀ (t : Nat) (l : Link) (tag : Byte) (c : RequestCode) (p held : List Byte) (b : Byte) (lastAt : Nat) (s : State),
     s.phase = .operating → c.lengthSuits p.length = false → p.length ≤ 250 →
     (s.link l).receiver = .collecting held lastAt → held ++ [b] = frameBytes c.toByte tag p → max s.now t ≤ lastAt + 5000 →
     (l = .cell → s.port.transaction.isSome = true) →
     let s0 := match l with | .cell => s.byteOut | .inspection => s
     ∃ s' : State, exec (.linkByteCompletes t l b) s =
         .next (if l = .cell ∧ s.port.ahead = false then s'.answerLeaves else s') ∧
       s0.Took t [] s' ∧ s0.KeepsAllBut [.now, .driven, .links, .events] s' ∧
       if (s.link l).hasPlace = false then
         s'.link l = { s.link l with receiver := .waiting } ∧ s'.link (otherLink l) = s.link (otherLink l) ∧
         s'.txSince = s.txSince ∧ s0.RaisedExactly [.linkError] s'
       else if (s.link l).inProgress.isSome = true then s0.Answers l .busy tag [] s' ∧ s0.RaisedExactly [] s'
       else if l = .inspection ∧ c ∉ [.lookup, .find, .setVerdict, .retire, .identify] then
         s0.Answers l .denied tag [] s' ∧ s0.RaisedExactly [] s'
       else s0.Answers l .frame 0 [] s' ∧ s0.RaisedExactly [.linkError] s') ∧
  (∀ (code tag : Byte) (p : List Byte),
     frameBytes code tag p =
       [0xC3, BitVec.ofNat 8 p.length, code, tag] ++ p ++ [crc8 ([BitVec.ofNat 8 p.length, code, tag] ++ p)]) ∧
  (crc8 [] = 0 ∧ ∀ (bytes : List Byte) (b : Byte), crc8 (bytes ++ [b]) =
     (List.range 8).foldl (fun (c : Byte) n => if c.getLsbD 7 = b.getLsbD (7 - n) then c <<< 1 else (c <<< 1) ^^^ 0x07) (crc8 bytes)) ∧
  (∀ (st : Status) (tag : Byte) (p : List Byte), answerFrame st tag p = frameBytes (match st with
     | .ok => 0x00 | .busy => 0x01 | .state => 0x02 | .range => 0x03 | .notFound => 0x04 | .duplicate => 0x05 | .full => 0x06
     | .denied => 0x07 | .empty => 0x08 | .frame => 0x09 | .unknown => 0x0A) tag p) ∧
  (∀ (c : RequestCode) (n : Nat),
     c.toByte = (match c with
       | .createJoints => 0x10 | .lookup => 0x11 | .find => 0x12 | .bind => 0x13 | .unbind => 0x14 | .setVerdict => 0x15
       | .rearm => 0x16 | .retire => 0x17 | .retireMatching => 0x18 | .writeProfile => 0x20 | .readProfile => 0x21
       | .storeProfiles => 0x22 | .abort => 0x28 | .writeSlots => 0x30 | .readSlots => 0x31 | .switchSlots => 0x32
       | .writePriority => 0x33 | .writeGroup => 0x34 | .enableHead => 0x40 | .disableHead => 0x41 | .clearFault => 0x42
       | .readHead => 0x43 | .start => 0x50 | .stop => 0x51 | .haltAll => 0x52 | .clearTrip => 0x53 | .readCell => 0x54
       | .readEvents => 0x60 | .acknowledgeEvents => 0x61 | .setLevels => 0x62 | .writeConfig => 0x70 | .readConfig => 0x71
       | .identify => 0x72) ∧
     (c.permittedOn .cell = true ∧
       (c.permittedOn .inspection = true ↔ c ∈ [.lookup, .find, .setVerdict, .retire, .identify])) ∧
     (c.lengthSuits n = true ↔ n ≤ 250 ∧ match c with
       | .createJoints => 3 ≤ n ∧ n % 2 = 1 | .writeSlots => n % 2 = 1 | .writePriority | .setLevels => n % 2 = 0
       | .writeGroup => 1 ≤ n | .acknowledgeEvents => True
       | .lookup | .unbind | .rearm | .retire => n = 4 | .find => n = 11 | .bind | .setVerdict => n = 5
       | .retireMatching => n = 8 | .writeProfile => n = 34 | .writeConfig => n = 19
       | .readProfile | .abort | .readSlots | .switchSlots | .enableHead | .disableHead | .clearFault | .readHead => n = 1
       | .storeProfiles | .start | .stop | .haltAll | .clearTrip | .readCell | .readEvents | .readConfig | .identify => n = 0))

/-- The other bytes of a frame (R159): a start byte is awaited, a length byte up to 250 and the bytes it announces are held,
on the Cell Link a byte clocked while CL_SEL is high is ignored, and otherwise the next byte of the front answer, or 0x00,
goes out, and an answer whose last byte has gone out leaves its queue (R165, R166), after the byte that came in has been
handled (log 33) unless ANSWER_SENT came before it (log 11). A byte more than 5 ms after the last one of a frame finds the
frame broken off, and is taken in WAITING (R161, log 12); the FRAME answer then stands behind the answers before it, and it is
the next one shifted where the last of those leaves with this byte. Of the byte that ends a frame nothing is said here, its
line actions included: it does what LastByteOfAFrameIsItsRequest says. -/
def Obligations.BytesAreCollected : Prop :=
  ∀ (t : Nat) (l : Link) (b : Byte) (s : State), s.phase = .operating →
    let front := s.cellLink.answers.headD []
    let leaves : Bool := match l, s.port.ahead, s.port.transaction with
      | .cell, false, some (.answer n) => decide (front.length ≤ n + 1)
      | .cell, false, some .filler | .cell, false, none | .cell, true, _ | .inspection, _, _ => false
    let queue := fun q : List (List Byte) => if leaves then q.tail else q
    let afterByte := fun joined : List (List Byte) => match l, s.port.ahead, s.port.transaction with
      | .cell, false, some (.answer n) =>
        ({ transaction := some (if n + 1 < front.length then .answer (n + 1)
             else if s.cellLink.answers.tail ++ joined = [] then .filler else .answer 0),
           dout := byteAt front n, ahead := false } : CellPort)
      | .cell, false, some .filler => { transaction := some .filler, dout := 0, ahead := false }
      | .cell, true, _ => { s.port with ahead := false }
      | .cell, false, none | .inspection, _, _ => s.port
    let fresh : Receiver := if b = 0xC3 then .collecting [b] (max s.now t) else .waiting
    let collects := fun (r : Receiver) (s' : State) =>
      s.Took t [] s' ∧ s'.link l = { s.link l with receiver := r, answers := queue (s.link l).answers } ∧
      s'.link (otherLink l) = s.link (otherLink l) ∧ s'.txSince = s.txSince ∧ s'.port = afterByte [] ∧
      s.KeepsAllBut [.now, .driven, .links, .port] s'
    ∃ s' : State, exec (.linkByteCompletes t l b) s = .next s' ∧
    (l = .cell → s.port.transaction = none → s.Idles t s') ∧
    ((l = .cell → s.port.transaction.isSome = true) →
      ((s.link l).receiver = .waiting → collects fresh s') ∧
      (∀ held lastAt, (s.link l).receiver = .collecting held lastAt →
        (max s.now t ≤ lastAt + 5000 →
          (held.length = 1 ∧ b.toNat ≤ 250 ∨ 2 ≤ held.length ∧ held.length < (byteAt held 1).toNat + 4) →
          collects (.collecting (held ++ [b]) (max s.now t)) s') ∧
        (lastAt + 5000 < max s.now t → s.LinksOk →
          let joined := if (s.link l).hasPlace then [answerFrame .frame 0 []] else []
          s.Took t [] s' ∧ s.RaisedExactly [.linkError] s' ∧
          s'.link l = { s.link l with receiver := fresh, answers := queue ((s.link l).answers ++ joined) } ∧
          s'.link (otherLink l) = s.link (otherLink l) ∧
          s'.txSince = (if l = .inspection ∧ s.inspLink.answers = [] ∧ joined ≠ [] then some s'.now else s.txSince) ∧
          s'.port = afterByte joined ∧ s.KeepsAllBut [.now, .driven, .links, .port, .events] s')))

/-- The three bad frames (R161), each at its own event, a wrong length and a check failure in any state of the
receiver (log 37): the receiver waits, LINK ERROR is raised, and a FRAME answer with tag 0 joins the queue if it has a
place (R165). A broken-off frame is ended 5 ms after its last byte at the earliest. A good frame whose code names no request
is discarded with LINK ERROR where the queue has no place (R162 step 1, R165), answered BUSY with its tag while a request of the
link is in progress (R162 step 2, R164), and else answered UNKNOWN with its tag (R162 step 3), as a whole frame in any state of
the receiver (log 37). A length byte up to 250, a code that names a request, and a frame broken off
in WAITING are no such event, and change nothing (log 5). -/
def Obligations.FramesThatReachNoBlockAreAnswered : Prop :=
  (∀ (t : Nat) (l : Link) (length : Byte) (held : List Byte) (lastAt : Nat) (s : State), s.phase = .operating →
     ∀ (c : Instr) (at' : Nat),
     (c = .frameWrongLength t l length ∧ 250 < length.toNat ∧ at' = t) ∨ (c = .frameCheckFailure t l ∧ at' = t) ∨
       (c = .frameBrokenOff t l ∧ (s.link l).receiver = .collecting held lastAt ∧ at' = max t (lastAt + 5000)) →
     ∃ s' : State, exec c s = .next s' ∧ s.Took at' [] s' ∧ s.RaisedExactly [.linkError] s' ∧
       s'.link l = { s.link l with receiver := .waiting, answers := (s.link l).answers ++
         if (s.link l).hasPlace then [answerFrame .frame 0 []] else [] } ∧
       ((s.link l).hasPlace = true → s.TxFollows l s') ∧ ((s.link l).hasPlace = false → s'.txSince = s.txSince) ∧
       s'.link (otherLink l) = s.link (otherLink l) ∧ s.KeepsAllBut [.now, .driven, .links, .events] s') ∧
  (∀ (t : Nat) (l : Link) (tag code : Byte) (s : State), s.phase = .operating →
     (∀ c : RequestCode, c.toByte ≠ code) →
     ∃ s' : State, exec (.unknownRequest t l tag code) s = .next s' ∧
       ((s.link l).hasPlace = false → s.Took t [] s' ∧ s.RaisedExactly [.linkError] s' ∧
         s'.link l = { s.link l with receiver := .waiting } ∧ s'.link (otherLink l) = s.link (otherLink l) ∧
         s'.txSince = s.txSince ∧ s.KeepsAllBut [.now, .driven, .links, .events] s') ∧
       ((s.link l).hasPlace = true → (s.link l).inProgress.isSome = true → State.Replied t l tag .busy [] [] s s') ∧
       (s.Takes l → State.Replied t l tag .unknown [] [] s s')) ∧
  (∀ (c : Instr) (t : Nat) (l : Link) (tag b : Byte) (s : State), s.phase = .operating →
     (c = .frameWrongLength t l b ∧ b.toNat ≤ 250) ∨ (c = .unknownRequest t l tag b ∧ ∃ r : RequestCode, r.toByte = b) ∨
       (c = .frameBrokenOff t l ∧ (s.link l).receiver = .waiting) →
     ∃ s' : State, exec c s = .next s' ∧ s.Idles t s')

/-- Answers leave from the front, each with its last byte (R165). On IL_TX each answer goes out whole, in ten bit times for
each byte from when it came to the front (R168; whole µs rounded up, log 34). On the Cell Link ANSWER_SENT is the last byte of
the answer that a transaction shifts, and nothing leaves at any other byte, where that byte has gone out ahead, while 0x00 is
shifted, or with CL_SEL high (R166; log 5, log 11). A transaction begins with the oldest answer's start byte, and one that
ends early leaves its answer at the front (R166, R167); that CL_SEL is followed while the part is held in reset is the
model's choice (log 10), and so is that a second fall of CL_SEL changes nothing (log 5). -/
def Obligations.AnswersLeaveOldestFirst : Prop :=
  ∀ (t : Nat) (s : State),
    (∀ frame rest since, s.phase ≠ .held → s.inspLink.answers = frame :: rest → s.txSince = some since →
      let baud := if s.config.running.linkSpeed = .baud115200 then 115200 else 460800
      ∃ (s' : State) (time : Nat), exec (.answerSent t .inspection) s = .next s' ∧
        frame.length * 10 * 1000000 ≤ time * baud ∧ time * baud < frame.length * 10 * 1000000 + baud ∧
        s.Took (max t (since + time)) [.transmit frame] s' ∧ s'.inspLink = { s.inspLink with answers := rest } ∧
        s'.cellLink = s.cellLink ∧ s'.txSince = (if rest = [] then none else some s'.now) ∧
        s.KeepsAllBut [.now, .driven, .links] s') ∧
    (s.phase ≠ .held → s.inspLink.answers = [] → ∃ s' : State, exec (.answerSent t .inspection) s = .next s' ∧
      s.Idles t s') ∧
    (s.phase ≠ .held → s.port.ahead = true ∨ s.port.transaction = some .filler ∨ s.port.transaction = none →
      ∃ s' : State, exec (.answerSent t .cell) s = .next s' ∧ s.Idles t s') ∧
    (∀ n front rest, s.phase ≠ .held → s.port.transaction = some (.answer n) → s.port.ahead = false →
      s.cellLink.answers = front :: rest → ∃ s' : State, exec (.answerSent t .cell) s = .next s' ∧ s.Took t [] s' ∧
      (n + 1 = front.length → s'.cellLink = { s.cellLink with answers := rest } ∧ s'.inspLink = s.inspLink ∧
        s'.txSince = s.txSince ∧
        s'.port = { transaction := some (if rest = [] then .filler else .answer 0), dout := byteAt front n, ahead := true } ∧
        s.KeepsAllBut [.now, .driven, .links, .port] s') ∧
      (n + 1 ≠ front.length → s.KeepsAllBut [.now, .driven] s')) ∧
    (s.port.transaction = none → ∃ s' : State, exec (.transactionBegin t) s = .next s' ∧
      s.Took t [] s' ∧ s'.port = { s.port with transaction := some (if s.cellLink.answers = [] then .filler else .answer 0) } ∧
      s.KeepsAllBut [.now, .driven, .port] s') ∧
    (s.port.transaction.isSome = true → ∃ s' : State, exec (.transactionBegin t) s = .next s' ∧ s.Idles t s') ∧
    (∃ s' : State, exec (.transactionEnd t) s = .next s' ∧ s.Took t [] s' ∧
      s'.port = { s.port with transaction := none, ahead := false } ∧ s.KeepsAllBut [.now, .driven, .port] s')

/-! ### Joint Table -/

/-- A Create Joints that passes the checks of R8 (R9, R3, R2): the entries take, in list order, the lowest slots then free,
each with a new PLANNED record; every other record stays; the mark follows the live count; the answer names the slots. -/
def Obligations.CreateJointsTakesTheLowestFreeSlots : Prop :=
  ∀ (t : Nat) (tag : Byte) (serial : Word24) (entries : List (Byte × Byte)) (s : State), s.Takes .cell → s.TableOk →
    1 ≤ entries.length → entries.length ≤ 32 → (∀ e ∈ entries, e.2.toNat ≤ 31) → (entries.map Prod.fst).Nodup →
    (∀ e ∈ entries, s.joint { serial := serial, position := e.1 } = none) → s.liveCount + entries.length ≤ 512 →
    ∃ (s' : State) (slots : List Nat), exec (.createJoints t .cell tag serial entries) s = .next s' ∧ slots.length = entries.length ∧
      (∀ (n : Nat) (e : Byte × Byte), entries[n]? = some e → ∃ (m : Nat) (j : Joint), slots[n]? = some m ∧ (m, j) ∈ s'.table.records ∧
        j.key = { serial := serial, position := e.1 } ∧ j.profile.val = e.2.toNat ∧
        j = { key := j.key, profile := j.profile, state := .planned, head := none, reheats := 0, lastTemp := none,
              peakTemp := none, setpoint := none, integral := 0, energy := 0, phaseElapsed := 0, soaked := 0, feedAcc := 0,
              fillerFed := 0, lastGrant := none, cause := none, verdict := none } ∧
        (∀ x ∈ s.table.records, x.1 ≠ m) ∧ m ∉ slots.take n ∧
        ∀ m' < m, (∃ x ∈ s.table.records, x.1 = m') ∨ m' ∈ slots.take n) ∧
      (∀ x ∈ s.table.records, x ∈ s'.table.records) ∧ s'.liveCount = s.liveCount + entries.length ∧ s'.TableOk ∧
      (if s.table.mark = .armed ∧ 480 ≤ s'.liveCount then s'.table.mark = .raised ∧ s.RaisedExactly [.tableHigh] s'
       else s'.table.mark = s.table.mark ∧ s.RaisedExactly [] s') ∧
      State.Replied t .cell tag .ok (counted (slots.map bytes2) ++ bytes2 s'.liveCount ++
        [(match s'.table.mark with | .armed => 0 | .raised => 1 : Byte)]) [.table, .events] s s'

/-- A Create Joints that fails a check of R8 creates nothing, and its answer names the first check that failed: the count,
the first profile above 31, the first entry whose key is held or repeats an earlier entry's, the free slots. -/
def Obligations.CreateJointsIsRefusedByItsFirstFailedCheck : Prop :=
  ∀ (t : Nat) (tag : Byte) (serial : Word24) (entries : List (Byte × Byte)) (s : State), s.Takes .cell →
    entries.length ≤ 123 →
    let badProfile := fun n : Nat => ∃ e, entries[n]? = some e ∧ 31 < e.2.toNat
    let badKey := fun n : Nat => ∃ e, entries[n]? = some e ∧ ((s.joint { serial := serial, position := e.1 }).isSome = true ∨
      ∃ m e', m < n ∧ entries[m]? = some e' ∧ e'.1 = e.1)
    ∃ s' : State, exec (.createJoints t .cell tag serial entries) s = .next s' ∧
    (entries.length < 1 ∨ 32 < entries.length → State.Replied t .cell tag .range [] [] s s') ∧
    (1 ≤ entries.length → entries.length ≤ 32 →
      (∀ n, badProfile n → (∀ m < n, ¬ badProfile m) → State.Replied t .cell tag .range [byteOf n] [] s s') ∧
      ((∀ n, ¬ badProfile n) →
        (∀ n, badKey n → (∀ m < n, ¬ badKey m) → State.Replied t .cell tag .duplicate [byteOf n] [] s s') ∧
        ((∀ n, ¬ badKey n) → 512 < s.liveCount + entries.length → State.Replied t .cell tag .full [] [] s s')))

/-- A Lookup answers the record's slot and fields, converted as R4 says, in the layout and the codes of R170, or NOT_FOUND,
on either link (R10, R4). -/
def Obligations.LookupAnswersTheRecord : Prop :=
  ∀ (t : Nat) (l : Link) (tag : Byte) (k : Key) (s : State), s.Takes l →
    let bit := fun (n : Nat) (present : Bool) => if present then (1 : Byte) <<< n else 0
    ∃ s' : State, exec (.lookup t l tag k) s = .next s' ∧
    match s.slotOf k with
    | none => State.Replied t l tag .notFound [] [] s s'
    | some (n, j) => State.Replied t l tag .ok
        (bytes2 n ++ keyBytes k ++ [byteOf j.profile.val,
          match j.state with
            | .planned => 0 | .placed => 1 | .ramp => 2 | .soak => 3 | .feed => 4 | .cool => 5 | .done => 6 | .rejected => 7,
          bit 0 j.head.isSome ||| bit 1 j.lastTemp.isSome ||| bit 2 j.peakTemp.isSome ||| bit 3 j.setpoint.isSome |||
            bit 4 j.lastGrant.isSome ||| bit 5 j.cause.isSome ||| bit 6 j.verdict.isSome,
          byteOf ((j.head.map Fin.val).getD 0), byteOf j.reheats] ++
        bytes2 (j.lastTemp.getD 0) ++ bytes2 (j.peakTemp.getD 0) ++ bytes2 (j.setpoint.getD 0 / 1000) ++ bytes2 j.integral ++
        bytes2 (j.energy / 1000) ++ bytes2 j.phaseElapsed ++ bytes2 j.soaked ++ bytes2 j.feedAcc ++ bytes2 j.fillerFed ++
        bytes2 ((j.lastGrant.map fun g => min 65535 (max s.now t / 1000 - g)).getD 0) ++
        [match j.cause with
            | none => 0 | some .overheat => 1 | some .slow => 2 | some .energy => 3 | some .clampLost => 4
            | some .earlyRelease => 5 | some .sampleLoss => 6 | some .coupling => 7 | some .coolant => 8 | some .supply => 9
            | some .generator => 10 | some .aborted => 11,
          match j.verdict with | none => 0 | some .accept => 1 | some .rework => 2 | some .scrap => 3]) [] s s'

/-- A Find answers the first sixteen matches from its start slot on, the slot to go on from or the end mark, the live count
and the mark (R11, R12), bit n of its state set standing for state code n (R170); an empty state set or a start slot above
511 is refused RANGE. -/
def Obligations.FindAnswersTheMatches : Prop :=
  ∀ (t : Nat) (l : Link) (tag : Byte) (code mask : Key) (states : Byte) (start : Word16) (s : State), s.Takes l →
    let found := (s.table.records.filter fun x => start.toNat ≤ x.1 ∧
      x.2.key.serial &&& mask.serial = code.serial &&& mask.serial ∧
      x.2.key.position &&& mask.position = code.position &&& mask.position ∧
      states.getLsbD (match x.2.state with
        | .planned => 0 | .placed => 1 | .ramp => 2 | .soak => 3 | .feed => 4 | .cool => 5 | .done => 6
        | .rejected => 7)).take 16
    let goOn := match found[15]? with
      | some x => if x.1 < 511 then x.1 + 1 else 0xFFFF
      | none => 0xFFFF
    ∃ s' : State, exec (.find t l tag code mask states start) s = .next s' ∧
    (states = 0 ∨ 511 < start.toNat → State.Replied t l tag .range [] [] s s') ∧
    (states ≠ 0 → start.toNat ≤ 511 → State.Replied t l tag .ok
      (byteOf found.length :: (found.flatMap fun x => bytes2 x.1 ++ keyBytes x.2.key) ++ bytes2 goOn ++
        bytes2 s.liveCount ++ [(match s.table.mark with | .armed => 0 | .raised => 1 : Byte)]) [] s s')

/-- A Bind passes or is refused as R14 says; it binds record and head in one request (R15), and starts the heat cycle in it
if the clamp, the flow and the cell allow (R47, R49).
An Unbind takes a PLACED record and its head apart in one request and changes nothing else of either (R18). -/
def Obligations.BindAndUnbindActOnBoth : Prop :=
  (∀ (t : Nat) (tag : Byte) (k : Key) (b : Byte) (s : State), s.Takes .cell → s.TableOk →
     ∃ s' : State, exec (.bind t .cell tag k b) s = .next s' ∧
     match headOf b, s.joint k with
     | none, _ => State.Replied t .cell tag .range [] [] s s'
     | some _, none => State.Replied t .cell tag .notFound [] [] s s'
     | some h, some j =>
       let p := s.profileOf j
       if j.state = .planned ∧ p.valid = true ∧ (s.head h).state = .idle then
         if (s.head h).clampClosed = true ∧ (∀ n ∈ (s.head h).lastFlow, s.config.running.flowMinimum ≤ n) ∧
             s.cell.state.running = true then
           State.Replied t .cell tag .ok [2] [.table, .heads, .power] s s' ∧
           s.RecordBecomes k { j with
             state := .ramp, head := some h,
             setpoint := some (match meanOf (s.head h).window with
               | none => 250000
               | some x => min x p.fields.target * 1000),
             integral := 0, phaseElapsed := 0, soaked := 0, feedAcc := 0, fillerFed := 0, lastGrant := none } s' ∧
           s.HeadBecomes h { s.head h with state := .heating, bound := some k, missed := 0, tankMiss := 0 } s' ∧
           s'.power = { s.power with startRefs := s.power.startRefs.set h (some (max s.now t / 1000)) }
         else
           State.Replied t .cell tag .ok [1] [.table, .heads] s s' ∧
           s.RecordBecomes k { j with state := .placed, head := some h } s' ∧
           s.HeadBecomes h { s.head h with state := .loaded, bound := some k } s'
       else State.Replied t .cell tag .state [] [] s s') ∧
  (∀ (t : Nat) (tag : Byte) (k : Key) (s : State), s.Takes .cell → s.TableOk → s.BindingsOk →
     ∃ s' : State, exec (.unbind t .cell tag k) s = .next s' ∧
     match s.joint k with
     | none => State.Replied t .cell tag .notFound [] [] s s'
     | some j =>
       if j.state = .placed then
         ∃ h, j.head = some h ∧ State.Replied t .cell tag .ok [] [.table, .heads] s s' ∧
           s.RecordBecomes k { j with state := .planned, head := none } s' ∧
           s.HeadBecomes h { s.head h with state := .idle, bound := none } s'
       else State.Replied t .cell tag .state [] [] s s')

/-- A Set Verdict is taken once for a finished record, bound or not, and never overwrites a verdict (R20). -/
def Obligations.SetVerdictIsTakenOnce : Prop :=
  ∀ (t : Nat) (l : Link) (tag : Byte) (k : Key) (b : Byte) (s : State), s.Takes l → s.TableOk →
    ∃ s' : State, exec (.setVerdict t l tag k b) s = .next s' ∧
    if b = 0 ∨ 3 < b.toNat then State.Replied t l tag .range [] [] s s'
    else match s.joint k with
    | none => State.Replied t l tag .notFound [] [] s s'
    | some j =>
      if (j.state = .done ∨ j.state = .rejected) ∧ j.verdict = none then
        State.Replied t l tag .ok [] [.table] s s' ∧
        s.RecordBecomes k { j with
          verdict := some (if b = 1 then .accept else if b = 2 then .rework else .scrap) } s'
      else State.Replied t l tag .state [] [] s s'

/-- A Rearm returns a record that passes R22 to PLANNED and changes the fields R23 names, no other. -/
def Obligations.RearmReturnsARecordToPlanned : Prop :=
  ∀ (t : Nat) (tag : Byte) (k : Key) (s : State), s.Takes .cell → s.TableOk →
    ∃ s' : State, exec (.rearm t .cell tag k) s = .next s' ∧
    (s.joint k = none → State.Replied t .cell tag .notFound [] [] s s') ∧
    ∀ j, s.joint k = some j →
      let passes := j.state = .rejected ∧ j.head = none ∧ j.verdict = none ∧
        (∃ c, j.cause = some c ∧ c ∈ [.clampLost, .sampleLoss, .coupling, .coolant, .supply, .generator, .aborted]) ∧
        j.reheats < 2 ∧
        (j.peakTemp = none ∨ ∃ x, j.peakTemp = some x ∧ (s.profileOf j).valid = true ∧ x < (s.profileOf j).fields.solidus)
      (passes → State.Replied t .cell tag .ok [byteOf (j.reheats + 1)] [.table] s s' ∧
        s.RecordBecomes k { j with
          state := .planned, reheats := j.reheats + 1, cause := none, setpoint := none, lastGrant := none, integral := 0,
          phaseElapsed := 0, soaked := 0, feedAcc := 0, fillerFed := 0 } s') ∧
      (¬ passes → State.Replied t .cell tag .state [] [] s s')

/-- A Retire removes an unbound record, which on the Inspection Link needs a verdict (R25, R26); the mark is re-armed at a
live count of 448 or below (R2).
A Retire Matching retires every matched record that is unbound and PLANNED, DONE or REJECTED, skips the other matched
ones, and answers how many of each (R28). -/
def Obligations.RetiringRemovesUnboundRecords : Prop :=
  (∀ (t : Nat) (l : Link) (tag : Byte) (k : Key) (s : State), s.Takes l → s.TableOk →
     ∃ s' : State, exec (.retire t l tag k) s = .next s' ∧
     match s.joint k with
     | none => State.Replied t l tag .notFound [] [] s s'
     | some j =>
       if j.head = none ∧ (l = .inspection → j.verdict.isSome = true) then
         State.Replied t l tag .ok (bytes2 s'.liveCount ++ [(match s'.table.mark with | .armed => 0 | .raised => 1 : Byte)])
           [.table] s s' ∧
         (∀ x, x ∈ s'.table.records ↔ x ∈ s.table.records ∧ x.2.key ≠ k) ∧ s'.liveCount + 1 = s.liveCount ∧
         s'.table.mark = if s'.liveCount ≤ 448 then .armed else s.table.mark
       else State.Replied t l tag .state [] [] s s') ∧
  (∀ (t : Nat) (tag : Byte) (code mask : Key) (s : State), s.Takes .cell → s.TableOk →
     let hit := fun x : Nat × Joint => decide (x.2.key.serial &&& mask.serial = code.serial &&& mask.serial ∧
       x.2.key.position &&& mask.position = code.position &&& mask.position)
     let goes := fun x : Nat × Joint => hit x && decide (x.2.head = none ∧ x.2.state ∈ [.planned, .done, .rejected])
     let retired := s.table.records.countP goes
     ∃ s' : State, exec (.retireMatching t .cell tag code mask) s = .next s' ∧
       (∀ x, x ∈ s'.table.records ↔ x ∈ s.table.records ∧ goes x = false) ∧ s'.liveCount + retired = s.liveCount ∧
       s'.table.mark = (if s'.liveCount ≤ 448 then .armed else s.table.mark) ∧
       State.Replied t .cell tag .ok (bytes2 retired ++ bytes2 (s.table.records.countP hit - retired) ++
         bytes2 s'.liveCount ++ [(match s'.table.mark with | .armed => 0 | .raised => 1 : Byte)]) [.table] s s')

/-! ### Profile Table -/

/-- A Write Profile is judged by R33 in order, with the first field that fails R32 named, and replaces the working profile
alone (R34, R35). The payload of an OK answer to an invalid profile is the model's choice (log 15). -/
def Obligations.WriteProfileReplacesTheWorkingProfile : Prop :=
  ∀ (t : Nat) (tag number flag : Byte) (words : Vector Word16 16) (s : State), s.Takes .cell →
    let w := fun i : Fin 16 => (words.get i).toNat
    let f : ProfileFields :=
      { target := w 0, soakBand := w 1, overshoot := w 2, solidus := w 3, rampRate := w 4, soakTime := w 5, kp := w 6,
        ki := w 7, powerCeiling := w 8, maxEnergy := w 9, maxRampTime := w 10, feedLength := w 11, feedRate := w 12,
        coolTime := w 13, tankMin := w 14, tankMax := w 15 }
    let tests : List Bool :=
      [450 ≤ w 0 && w 0 ≤ 1050, 5 ≤ w 1 && w 1 ≤ 50, 5 ≤ w 2 && w 2 ≤ 100 && w 0 + w 2 ≤ 1100,
       400 ≤ w 3 && w 3 ≤ 1050 && w 3 ≤ w 0, 10 ≤ w 4 && w 4 ≤ 1000, w 5 ≤ 10000, w 6 ≤ 500, w 7 ≤ 200,
       100 ≤ w 8 && w 8 ≤ 30000, 100 ≤ w 9 && w 9 ≤ 60000, 500 ≤ w 10 && w 10 ≤ 30000, w 11 ≤ 500,
       10 ≤ w 12 && w 12 ≤ 1000, w 13 ≤ 20000, 100 ≤ w 14 && w 14 ≤ 599, 101 ≤ w 15 && w 15 ≤ 600 && w 14 < w 15]
    let valid := flag.getLsbD 0
    ∃ s' : State, exec (.writeProfile t .cell tag number flag words) s = .next s' ∧
    match profileNumberOf number with
    | none => State.Replied t .cell tag .range [] [] s s'
    | some n =>
      (valid = true → ∀ i, tests[i]? = some false → (∀ m < i, tests[m]? = some true) →
        State.Replied t .cell tag .range [byteOf i] [] s s') ∧
      ((valid = true → ∀ ok ∈ tests, ok = true) →
        if s.cell.state.running = true then State.Replied t .cell tag .state [] [] s s'
        else State.Replied t .cell tag .ok (if valid then [number, 1] else []) [.profiles] s s' ∧
          s'.profiles = { s.profiles with
            working := s.profiles.working.set n { valid := valid, fields := f, status := .written } })

/-- A Store Profiles captures the working profiles and becomes the request in progress, without an answer (R41, R164); each
event of the store writes the next captured profile with its check; the last event ends it with the OK answer. With no store
under way either event changes nothing (log 5). -/
def Obligations.StoreProfilesWritesWhatItCaptured : Prop :=
  ∀ (t : Nat) (tag : Byte) (s : State),
    (s.Takes .cell → ∃ s' : State, exec (.storeProfiles t .cell tag) s = .next s' ∧
      s'.profiles = { s.profiles with store := some { captured := s.profiles.working, written := 0, since := max s.now t : StoreRun } } ∧
      s'.cellLink = { s.cellLink with receiver := .waiting, inProgress := some { request := .storeProfiles, tag := tag } } ∧
      s'.inspLink = s.inspLink ∧ s'.txSince = s.txSince ∧ s.Took t [] s' ∧
      s.KeepsAllBut [.now, .driven, .links, .profiles] s') ∧
    (∀ r, s.phase ≠ .held → s.profiles.store = some r → (hr : r.written < 32) →
      ∃ s' : State, exec (.storedProfileWritten t) s = .next s' ∧
        s.Took (max t (r.since + (r.written + 1) * 1250)) [] s' ∧
        (let p := r.captured.get ⟨r.written, hr⟩
         let copy : StoredProfile := { valid := p.valid, fields := p.fields, checkAgrees := true }
         s'.profiles = { s.profiles with
           stored := s.profiles.stored.set r.written copy, store := some { r with written := r.written + 1 } }) ∧
        s.KeepsAllBut [.now, .driven, .profiles] s') ∧
    (∀ r saved, s.phase ≠ .held → s.profiles.store = some r →
      s.cellLink.inProgress = some { request := .storeProfiles, tag := saved } →
      ∃ s' : State, exec (.storeProfilesComplete t) s = .next s' ∧ s.Took (max t (r.since + 40000)) [] s' ∧
        s'.profiles.store = none ∧
        (∀ n : Fin 32, s'.profiles.working.get n = { s.profiles.working.get n with status := .stored } ∧
          (r.written ≤ n.val → s'.profiles.stored.get n =
            { valid := (r.captured.get n).valid, fields := (r.captured.get n).fields, checkAgrees := true }) ∧
          (n.val < r.written → s'.profiles.stored.get n = s.profiles.stored.get n)) ∧
        s'.cellLink = { s.cellLink with inProgress := none, answers := s.cellLink.answers ++
          [answerFrame .ok saved [byteOf (r.captured.toList.countP fun p => p.valid)]] } ∧
        s'.inspLink = s.inspLink ∧ s'.txSince = s.txSince ∧ s.KeepsAllBut [.now, .driven, .profiles, .links] s') ∧
    (s.phase ≠ .held → s.profiles.store = none → ∀ c, c = .storedProfileWritten t ∨ c = .storeProfilesComplete t →
      ∃ s' : State, exec c s = .next s' ∧ s.Idles t s')

/-! ### Heat cycle

The energy added where an output is cut is `State.energyAfterCut`: the whole ms since the guard end (log 3), also where the cut
is taken at the time of the slot end and before it (log 32). -/

/-- A period close in RAMP under a closed clamp, whatever its reading (R50 to R55, R122 to R125): an accepted reading enters
the window and the record, a missed one below the limit is counted and T held; phase elapsed and the setpoint rise, the ramp
time is tested before the band, and a heating that ends sends its head to cool (R61, R62), cuts its own output (R89, R106)
and leaves every part of the state that an output, an event or this head does not touch. -/
def Obligations.RampCloseLeadsTheJoint : Prop :=
  ∀ (t : Nat) (h : Fin 8) (k : Key) (j : Joint) (clampHigh : Bool) (s : State), s.phase ≠ .held → s.TableOk →
    (s.head h).state = .heating → (s.head h).bound = some k → s.joint k = some j → j.state = .ramp →
    (s.head h).kept ≠ some .over → (s.head h).clampClosed = true →
    (s.head h).clampHolds clampHigh s.config.running.clampFilter →
    let now := max s.now (max t (s.head h).closeDue)
    let p := (s.profileOf j).fields
    let x := countsAs (s.head h).kept
    let hd := (s.head h).afterClose x clampHigh now
    let temp := meanOf hd.window
    let inBand := temp.any fun y => p.target ≤ y + p.soakBand
    let elapsed := min 65535 (j.phaseElapsed + 2)
    let pulses := List.replicate (s.head h).stepsWaiting (.feederPulse h)
    let j1 := { j.withReading x with phaseElapsed := elapsed,
                                     setpoint := some (min (j.setpoint.getD 0 + 2 * p.rampRate) (1000 * p.target)) }
    let cut : List Part := [.now, .driven, .table, .heads, .power, .sched, .gen, .events]
    hd.missed < s.config.running.sampleLoss → (∀ y ∈ temp, y ≤ p.target + p.overshoot) →
    ∃ s' : State, exec (.periodClose t h clampHigh) s = .next s' ∧ s'.now = now ∧
      (elapsed ≤ p.maxRampTime →
        (inBand = false ∨ 0 < p.soakTime ∨ 0 < p.feedLength →
          s'.driven = pulses ∧ s.HeadBecomes h hd s' ∧ s.KeepsAllBut [.now, .driven, .table, .heads] s' ∧
          s.RecordBecomes k (if inBand then
              { j1 with state := if 0 < p.soakTime then .soak else .feed, soaked := 0, phaseElapsed := 0 } else j1) s') ∧
        (inBand = true → p.soakTime = 0 → p.feedLength = 0 → s.HeadBecomes h (hd.cooled now p.coolTime) s' ∧
          s.RaisedExactly (if p.coolTime = 0 then [.jointDone] else []) s' ∧ s.KeepsAllBut cut s' ∧
          (s.BindingsOk → s.OutputOk → s.EndsHeating h k
            { j1 with state := if p.coolTime = 0 then .done else .cool, soaked := 0, phaseElapsed := 0 } pulses s'))) ∧
      (p.maxRampTime < elapsed → s'.StandsRejected k .slow ∧ s.HeadBecomes h (hd.cooled now p.coolTime) s' ∧
        s.RaisedExactly [.jointRejected] s' ∧ s.KeepsAllBut cut s' ∧
        (s.BindingsOk → s.OutputOk →
          s.EndsHeating h k { j1 with state := .rejected, cause := some .slow } pulses s'))

/-- A period close in SOAK, whatever its reading (R56, R57): time in band adds up, a held T counts, time below the band is
held, and the completed soak passes on to FEED, or to COOL where the profile feeds no wire.
A period close in FEED (R58, R59, R134): in band whole steps are emitted up to the feed length and handed to the feeder
drive; the last one takes the joint to COOL, which cuts its output (R61); below the band nothing is fed. -/
def Obligations.SoakAndFeedClosesCountInBand : Prop :=
  ∀ (t : Nat) (h : Fin 8) (k : Key) (j : Joint) (clampHigh : Bool) (s : State), s.phase ≠ .held → s.TableOk →
    (s.head h).state = .heating → (s.head h).bound = some k → s.joint k = some j →
    (s.head h).kept ≠ some .over → (s.head h).clampClosed = true →
    (s.head h).clampHolds clampHigh s.config.running.clampFilter →
    let now := max s.now (max t (s.head h).closeDue)
    let p := (s.profileOf j).fields
    let x := countsAs (s.head h).kept
    let hd := (s.head h).afterClose x clampHigh now
    let temp := meanOf hd.window
    let inBand := temp.any fun y => p.target ≤ y + p.soakBand
    let pulses := List.replicate (s.head h).stepsWaiting (.feederPulse h)
    let cooled := if p.coolTime = 0 then JointState.done else .cool
    let cut : List Part := [.now, .driven, .table, .heads, .power, .sched, .gen, .events]
    hd.missed < s.config.running.sampleLoss → (∀ y ∈ temp, y ≤ p.target + p.overshoot) →
    (j.state = .soak →
      let soaked := if inBand then min (j.soaked + 2) p.soakTime else j.soaked
      let j1 := { j.withReading x with soaked := soaked, phaseElapsed := min 65535 (j.phaseElapsed + 2) }
      ∃ s' : State, exec (.periodClose t h clampHigh) s = .next s' ∧ s'.now = now ∧
        (soaked ≠ p.soakTime ∨ 0 < p.feedLength →
          s.RecordBecomes k (if soaked ≠ p.soakTime then j1 else { j1 with state := .feed, phaseElapsed := 0 }) s' ∧
          s.HeadBecomes h hd s' ∧ s'.driven = pulses ∧ s.KeepsAllBut [.now, .driven, .table, .heads] s') ∧
        (soaked = p.soakTime → p.feedLength = 0 → s.HeadBecomes h (hd.cooled now p.coolTime) s' ∧
          s.RaisedExactly (if p.coolTime = 0 then [.jointDone] else []) s' ∧ s.KeepsAllBut cut s' ∧
          (s.BindingsOk → s.OutputOk → s.EndsHeating h k { j1 with state := cooled, phaseElapsed := 0 } pulses s'))) ∧
    (j.state = .feed →
      let acc := j.feedAcc + 2 * p.feedRate
      let n := min (acc / 1000) (p.feedLength - j.fillerFed)
      let j1 := { j.withReading x with phaseElapsed := min 65535 (j.phaseElapsed + 2) }
      ∃ s' : State, exec (.periodClose t h clampHigh) s = .next s' ∧ s'.now = now ∧
        (inBand = false ∨ j.fillerFed + n < p.feedLength →
          s.RecordBecomes k (if inBand then { j1 with feedAcc := acc - 1000 * n, fillerFed := j.fillerFed + n } else j1) s' ∧
          s.HeadBecomes h { hd with stepsWaiting := if inBand then n else 0 } s' ∧ s'.driven = pulses ∧
          s.KeepsAllBut [.now, .driven, .table, .heads] s') ∧
        (inBand = true → p.feedLength ≤ j.fillerFed + n →
          s.HeadBecomes h ({ hd with stepsWaiting := n }.cooled now p.coolTime) s' ∧
          s.RaisedExactly (if p.coolTime = 0 then [.jointDone] else []) s' ∧ s.KeepsAllBut cut s' ∧
          (s.BindingsOk → s.OutputOk → s.EndsHeating h k
            { j1 with state := cooled, feedAcc := 0, fillerFed := j.fillerFed + n, phaseElapsed := 0 } pulses s')))

/-- A heating joint is rejected OVERHEAT by an OVER reading, whatever T is, and by a T above target + overshoot, a held T
among them (R50, R52, R60, R62): its head cools it, its output is cut and charged (R87, R89), and JOINT REJECTED is raised
once.
The missed period that reaches the sample-loss limit faults a HEATING head: its joint is rejected SAMPLE_LOSS, charged and
unbound, and its output is cut (R124, R135, R89, R106), whatever the cause of the miss; the clamp is sampled after that, and a
flip is then a change of the filtered state alone (R126 to R128). -/
def Obligations.ReadingsEndAHeating : Prop :=
  (∀ (t : Nat) (h : Fin 8) (k : Key) (j : Joint) (clampHigh : Bool) (s : State), s.phase ≠ .held → s.TableOk →
     (s.head h).state = .heating → (s.head h).bound = some k → s.joint k = some j → j.state.heating = true →
     (s.head h).clampClosed = true → (s.head h).clampHolds clampHigh s.config.running.clampFilter →
     let now := max s.now (max t (s.head h).closeDue)
     let p := (s.profileOf j).fields
     let x := countsAs (s.head h).kept
     let hd := (s.head h).afterClose x clampHigh now
     ((s.head h).kept = some .over ∨ (hd.missed < s.config.running.sampleLoss ∧
       ∃ y ∈ meanOf hd.window, p.target + p.overshoot < y)) →
     ∃ s' : State, exec (.periodClose t h clampHigh) s = .next s' ∧ s'.now = now ∧ s'.StandsRejected k .overheat ∧
       s.HeadBecomes h (hd.cooled now p.coolTime) s' ∧
       s.RaisedExactly [.jointRejected] s' ∧ s.KeepsAllBut [.now, .driven, .table, .heads, .power, .sched, .gen, .events] s' ∧
       (s.BindingsOk → s.OutputOk → s.EndsHeating h k
         { j.withReading x with state := .rejected, cause := some .overheat }
         (List.replicate (s.head h).stepsWaiting (.feederPulse h)) s')) ∧
  (∀ (t : Nat) (h : Fin 8) (k : Key) (j : Joint) (clampHigh : Bool) (s : State), s.phase ≠ .held → s.TableOk →
     (s.head h).state = .heating → (s.head h).bound = some k → s.joint k = some j → j.state.heating = true →
     countsAs (s.head h).kept = none → s.config.running.sampleLoss ≤ min 15 ((s.head h).missed + 1) →
     let now := max s.now (max t (s.head h).closeDue)
     let hd := (s.head h).afterClose none clampHigh now
     let flips := clampHigh ≠ (s.head h).clampClosed ∧ s.config.running.clampFilter ≤ (s.head h).clampCount + 1
     ∃ s' : State, exec (.periodClose t h clampHigh) s = .next s' ∧ s'.now = now ∧ s'.StandsFaulted h .sample ∧
       s'.StandsRejected k .sampleLoss ∧ (s'.joint k).bind Joint.head = none ∧
       s.HeadBecomes h { hd with
         state := .fault, faultCause := some .sample, bound := none, coolingUntil := none,
         clampClosed := if flips then clampHigh else hd.clampClosed, clampCount := if flips then 0 else hd.clampCount } s' ∧
       s.RaisedExactly [.jointRejected, .headFault] s' ∧
       s.KeepsAllBut [.now, .driven, .table, .heads, .power, .sched, .gen, .events] s' ∧
       (s.BindingsOk → s.OutputOk → s.EndsHeating h k
         { j with state := .rejected, cause := some .sampleLoss, head := none }
         (List.replicate (s.head h).stepsWaiting (.feederPulse h)) s'))

/-- A close of a COOLING or RELEASE head, whatever its reading (R63, R64, R122 to R125): the reading enters window and record,
phase elapsed rises in COOL, nothing else of the record changes; a clamp that has shown open for the filter's length unbinds
the joint and frees the head, a joint still in COOL is rejected EARLY_RELEASE, any other keeps its outcome (R126, R127, R65).
A cooling timer that expires takes its head to RELEASE; a joint in COOL becomes DONE, a REJECTED one stays as it is, and
both stay bound (R64). The expiry is not taken before its time, and that of a timer that does not run changes nothing (log 5).
A clamp flip acts on what the rest of its close has left (R126): an opening rejects a joint that still heats CLAMP_LOST, cuts
and charges its output and unbinds it, and leaves IDLE, LOADED and FAULT heads but for the filtered state (R127); a closing
starts a LOADED head that is ready and is no more than a change of the filtered state at any other (R47 to R49, R128). -/
def Obligations.CoolingEndsByClampOrTimer : Prop :=
  (∀ (t : Nat) (h : Fin 8) (k : Key) (j : Joint) (clampHigh : Bool) (s : State), s.phase ≠ .held → s.TableOk →
     ((s.head h).state = .cooling ∨ (s.head h).state = .release) → (s.head h).bound = some k → s.joint k = some j →
     (s.head h).clampClosed = true →
     let now := max s.now (max t (s.head h).closeDue)
     let x := countsAs (s.head h).kept
     let hd := (s.head h).afterClose x clampHigh now
     let inCool := (s.head h).state = .cooling ∧ j.state = .cool
     let j1 := { j.withReading x with
       phaseElapsed := if inCool then min 65535 (j.phaseElapsed + 2) else j.phaseElapsed }
     ∃ s' : State, exec (.periodClose t h clampHigh) s = .next s' ∧ s'.now = now ∧
       s'.driven = List.replicate (s.head h).stepsWaiting (.feederPulse h) ∧
       s.KeepsAllBut [.now, .driven, .table, .heads, .events] s' ∧
       ((s.head h).clampHolds clampHigh s.config.running.clampFilter →
         s.HeadBecomes h hd s' ∧ s.RecordBecomes k j1 s' ∧ s.RaisedExactly [] s') ∧
       (clampHigh = false → s.config.running.clampFilter ≤ (s.head h).clampCount + 1 →
         s.HeadBecomes h { hd with
           state := .idle, bound := none, clampClosed := false, coolingUntil := none, clampCount := 0 } s' ∧
         (if inCool then
           s.RecordBecomes k { j1 with state := .rejected, cause := some .earlyRelease, head := none } s' ∧
           s.RaisedExactly [.jointRejected] s'
         else s.RecordBecomes k { j1 with head := none } s' ∧ s.RaisedExactly [] s'))) ∧
  (∀ (t : Nat) (h : Fin 8) (k : Key) (j : Joint) (expiry : Nat) (s : State), s.phase ≠ .held → s.TableOk →
     (s.head h).state = .cooling → (s.head h).coolingUntil = some expiry → (s.head h).bound = some k → s.joint k = some j →
     ∃ s' : State, exec (.coolingTimerExpiry t h) s = .next s' ∧ s.Took (max t expiry) [] s' ∧
       s.HeadBecomes h { s.head h with state := .release, coolingUntil := none } s' ∧
       s.KeepsAllBut [.now, .driven, .heads, .table, .events] s' ∧
       (if j.state = .cool then s.RecordBecomes k { j with state := .done } s' ∧ s.RaisedExactly [.jointDone] s'
        else s'.table = s.table ∧ s.RaisedExactly [] s')) ∧
  (∀ (t : Nat) (h : Fin 8) (s : State), s.phase ≠ .held → (s.head h).state ≠ .cooling ∨ (s.head h).coolingUntil = none →
     ∃ s' : State, exec (.coolingTimerExpiry t h) s = .next s' ∧ s.Idles t s') ∧
  (∀ (t : Nat) (h : Fin 8) (s : State), s.phase ≠ .held → s.TableOk → s.BindingsOk → s.OutputOk →
     (s.head h).state ≠ .off → s.config.running.clampFilter ≤ (s.head h).clampCount + 1 →
     let closed := (s.head h).clampClosed
     ∃ s1 s2 : State, exec (.periodClose t h closed) s = .next s1 ∧ exec (.periodClose t h !closed) s = .next s2 ∧
       let hd := s1.head h
       let flipped := { hd with clampClosed := !closed, clampCount := 0 }
       let ready := hd.state = .loaded ∧ (s1.boundProfile h).any (fun p => p.valid) = true ∧
         (∀ n ∈ hd.lastFlow, s1.config.running.flowMinimum ≤ n) ∧ s1.cell.state.running = true
       (closed = true → hd.state ∈ [.heating, .cooling, .release] →
         s1.HeadBecomes h { flipped with state := .idle, bound := none, coolingUntil := none } s2 ∧
         ∀ k j, hd.bound = some k → s1.joint k = some j →
           if hd.state = .heating then
             s1.RecordBecomes k { j with
               state := .rejected, cause := some .clampLost, head := none, energy := s1.energyAfterCut s1.now j } s2 ∧
             s1.RaisedExactly [.jointRejected] s2 ∧ s1.OutputCutFor h s1.driven s2 ∧
             s1.KeepsAllBut [.table, .heads, .events, .gen, .power, .driven, .sched] s2
           else if hd.state = .cooling ∧ j.state = .cool then
             s1.RecordBecomes k { j with state := .rejected, cause := some .earlyRelease, head := none } s2 ∧
             s1.RaisedExactly [.jointRejected] s2 ∧ s1.KeepsAllBut [.table, .heads, .events] s2
           else s1.RecordBecomes k { j with head := none } s2 ∧ s1.KeepsAllBut [.table, .heads] s2) ∧
       (closed = false → ready → ∀ k j, hd.bound = some k → s1.joint k = some j →
         s1.HeadBecomes h { flipped with state := .heating, missed := 0, tankMiss := 0 } s2 ∧
         s1.RecordBecomes k { j with
           state := .ramp, integral := 0, phaseElapsed := 0, soaked := 0, feedAcc := 0, fillerFed := 0, lastGrant := none,
           setpoint := some (match meanOf hd.window with
             | none => 250000
             | some y => min y (s1.profileOf j).fields.target * 1000) } s2 ∧
         s2.power = { s1.power with startRefs := s1.power.startRefs.set h (some (s1.now / 1000)) } ∧
         s1.KeepsAllBut [.table, .heads, .power] s2) ∧
       ((closed = true ∧ hd.state ∈ [.idle, .loaded, .fault]) ∨ (closed = false ∧ ¬ ready) →
         s1.HeadBecomes h flipped s2 ∧ s1.KeepsAllBut [.heads] s2))

/-- An Abort rejects the joint of a HEATING head ABORTED, cuts and charges its output (R87, R89), and sends the head to cool
it, or is refused RANGE or STATE (R71). -/
def Obligations.AbortRejectsAndCools : Prop :=
  ∀ (t : Nat) (tag b : Byte) (s : State), s.Takes .cell → s.TableOk → s.BindingsOk → s.OutputOk →
    ∃ s' : State, exec (.abort t .cell tag b) s = .next s' ∧
    match headOf b with
    | none => State.Replied t .cell tag .range [] [] s s'
    | some h =>
      if (s.head h).state = .heating then
        ∃ k j, (s.head h).bound = some k ∧ s.joint k = some j ∧
          s.EndsHeating h k { j with state := .rejected, cause := some .aborted } [] s' ∧
          s.HeadBecomes h ((s.head h).cooled s'.now (s.profileOf j).fields.coolTime) s' ∧
          s.RaisedExactly [.jointRejected] s' ∧ s.Answers .cell .ok tag (keyBytes k) s' ∧ s'.now = max s.now t ∧
          s.KeepsAllBut [.now, .driven, .links, .table, .heads, .power, .sched, .gen, .events] s'
      else State.Replied t .cell tag .state [] [] s s'

/-! ### Demand arithmetic -/

/-- The guard end of a granted slot whose joint is heating computes the demand (R75, R78 to R85): the error, the interval
since the last grant or the start, the ceiling, the integral with its anti-windup, the demand and its code; the account is
opened and the code sent, most significant bit first, if it changes (R156).
The guard end of an idle slot, of a slot cut in its guard, or of one whose head or joint or cell no longer heats computes
nothing: record, account and code stay (R75, R96). With no slot running, or its guard ended already, a GUARD_END changes nothing
(log 5). -/
def Obligations.GuardEndComputesTheDemand : Prop :=
  (∀ (t : Nat) (cur : CurrentSlot) (g : Grant) (k : Key) (j : Joint) (temp ref : Nat) (s : State), s.phase ≠ .held →
     s.TableOk → s.sched.current = some cur → cur.guardEnded = false → cur.cut = false → cur.grant = some g →
     (s.head g.head).state = .heating → (s.head g.head).bound = some k → s.joint k = some j → j.state.heating = true →
     s.cell.state.running = true → meanOf (s.head g.head).window = some temp →
     (j.lastGrant = some ref ∨ (j.lastGrant = none ∧ s.power.startRefs.get g.head = some ref)) →
     let now := max s.now (max t (cur.start + 1000))
     let p := (s.profileOf j).fields
     let aimed := if j.state = .ramp then j.setpoint.getD 0 / 1000 else p.target
     let e : Int := (aimed : Int) - temp
     let delta := min 1000 (now / 1000 - ref)
     let rating := s.config.running.rating
     let c := min p.powerCeiling (if s.cell.state = .derated then rating * s.config.running.derate / 100 else rating)
     let step := Int.tdiv (p.ki * e * delta) 1000
     let step' := if 0 < step ∧ (c : Int) ≤ p.kp * e + j.integral then 0 else step
     let i := (max 0 (min (c : Int) (j.integral + step'))).toNat
     let d := (max 0 (min (c : Int) (p.kp * e + i))).toNat
     let dc := (d * 4095 + rating / 2) / rating
     ∃ s' : State, exec (.guardEnd t) s = .next s' ∧ s'.now = now ∧
       s.RecordBecomes k { j with integral := i, lastGrant := some (now / 1000) } s' ∧
       s'.power = { s.power with account := some { head := g.head, joint := k, demand := d, code := dc, since := now } } ∧
       s'.gen = { s.gen with code := BitVec.ofNat 12 dc, tank := if dc = 0 then .off else .armed } ∧
       s'.sched = { s.sched with current := some { cur with guardEnded := true } } ∧
       s'.driven = (if s.gen.code = BitVec.ofNat 12 dc then []
         else [.transfer ((List.range 12).map fun n => decide (dc / 2 ^ (11 - n) % 2 = 1))]) ∧
       s.KeepsAllBut [.now, .driven, .table, .power, .gen, .sched] s') ∧
  (∀ (t : Nat) (cur : CurrentSlot) (s : State), s.phase ≠ .held → s.sched.current = some cur → cur.guardEnded = false →
     (cur.grant = none ∨ cur.cut = true ∨ s.cell.state.running = false ∨ ∃ g, cur.grant = some g ∧ s.headHeats g.head = false) →
     ∃ s' : State, exec (.guardEnd t) s = .next s' ∧ s.Took (max t (cur.start + 1000)) [] s' ∧
       s'.sched = { s.sched with current := some { cur with guardEnded := true } } ∧ s.KeepsAllBut [.now, .driven, .sched] s') ∧
  (∀ (t : Nat) (s : State), s.phase ≠ .held → (∀ cur, s.sched.current = some cur → cur.guardEnded = true) →
     ∃ s' : State, exec (.guardEnd t) s = .next s' ∧ s.Idles t s')

/-- The slot end of an uncut granted slot with its account open, in each way its works are taken and with any measurement or
none (R87, R88, R107, R133): the joint is charged P for the slot length less the guard; over its limit it is rejected ENERGY and
its head cools, and an energy at the limit is not over it. A measurement is judged in the same event, unless that is left to a
second SLOT_END (log 35): inside the window it clears the miss count, outside it counts a miss, and the second one faults the
head TANK and unbinds the joint, whose cause is ENERGY if the energy came first and was over, and COUPLING otherwise. -/
def Obligations.SlotEndChargesTheEnergy : Prop :=
  ∀ (t : Nat) (order : SlotEndOrder) (cur : CurrentSlot) (g : Grant) (a : Account) (j : Joint) (s : State), s.phase ≠ .held →
    s.TableOk → s.sched.current = some cur → cur.grant = some g → cur.cut = false → s.power.account = some a →
    a.head = g.head → (s.head g.head).bound = some a.joint → s.joint a.joint = some j → j.state.heating = true →
    let now := max s.now (max t (cur.start + s.config.running.slotLength * 1000))
    let p := (s.profileOf j).fields
    let energy := min 61470000 (j.energy + a.demand * (s.config.running.slotLength - 1))
    let exceeds := p.maxEnergy * 1000 < energy
    let hd := s.head g.head
    let measured := match s.gen.tank with
      | .ended f => some f
      | .off | .armed | .timing _ => none
    let judged := if order = .energyAlone then none else measured
    let outside := judged.any fun f => decide (f < p.tankMin * 100 ∨ p.tankMax * 100 < f)
    let faults := outside = true ∧ 1 ≤ hd.tankMiss
    let hd1 := match judged with
      | some f => { hd with lastTank := some f, tankMiss := if outside then min 2 (hd.tankMiss + 1) else 0 }
      | none => hd
    let cooled := { hd1 with
      state := if p.coolTime = 0 then .release else .cooling,
      coolingUntil := if p.coolTime = 0 then none else some (now + p.coolTime * 1000) }
    let switched := if order ≠ .energyAlone ∧ (s.sched.entries s.sched.active).length ≤ s.sched.position + 1 ∧
      s.sched.switchTo.isSome = true then [EventKind.slotsSwitched] else []
    ∃ s' : State, exec (.slotEnd t order) s = .next s' ∧ s'.now = now ∧
      s'.power = { s.power with account := none } ∧ s'.gen = { s.gen with code := 0, tank := .off } ∧
      (¬ faults → s.HeadBecomes g.head (if exceeds then cooled else hd1) s' ∧
        s.RecordBecomes a.joint (if exceeds then { j with energy := energy, state := .rejected, cause := some .energy }
          else { j with energy := energy }) s' ∧
        s.RaisedExactly ((if exceeds then [.jointRejected] else []) ++ switched) s') ∧
      (faults → hd.state = .heating →
        s.HeadBecomes g.head { hd1 with state := .fault, faultCause := some .tank, bound := none, coolingUntil := none } s' ∧
        s.RecordBecomes a.joint { j with
          energy := energy, state := .rejected, head := none,
          cause := some (if exceeds ∧ order = .energyFirst then .energy else .coupling) } s' ∧
        s.RaisedExactly ([.jointRejected, .headFault] ++ switched) s') ∧
      s'.sched.judging = (if order = .energyAlone then
        some { head := g.head, joint := some a.joint, measured := measured } else s.sched.judging) ∧
      s.KeepsAllBut [.now, .driven, .table, .heads, .power, .gen, .sched, .events] s'

/-- The two works of a slot end may come in either order (R107): the energy charged, the account, every head record, the
schedule, the output and the events agree, and so does every record but for its reject cause. The energy alone, with a second
SLOT_END at once (R133, log 35), leaves what the energy first leaves. -/
def Obligations.SlotEndOrdersChargeTheSame : Prop :=
  (∀ (t : Nat) (s s1 s2 : State), s.TableOk → s.BindingsOk → s.OutputOk →
     exec (.slotEnd t .energyFirst) s = .next s1 → exec (.slotEnd t .tankFirst) s = .next s2 →
     s1.KeepsAllBut [.table] s2 ∧ s1.table.mark = s2.table.mark ∧
     s1.table.records.map (fun x => (x.1, { x.2 with cause := none })) =
       s2.table.records.map fun x => (x.1, { x.2 with cause := none })) ∧
  (∀ (t t' : Nat) (order : SlotEndOrder) (s s1 s2 s3 : State), s.TableOk → s.BindingsOk → s.SchedOk →
     exec (.slotEnd t .energyFirst) s = .next s1 → exec (.slotEnd t .energyAlone) s = .next s2 → t' ≤ s2.now →
     exec (.slotEnd t' order) s2 = .next s3 → s1.KeepsAllBut [.driven] s3)

/-- The tank measurement (R132): armed by a non-zero code, it begins at one edge and ends sixteen later, and its frequency
is 16,000,000 by the µs between, rounded down; for 0 µs the manual states none, and it is the free value of log 14. An edge with
no measurement armed, and an end of one that has not begun, change nothing (log 5).
The tank frequency of a slot whose energy stays within the limit (R132, R133, R39): inside the window, both edges
included, it clears the miss count; outside it counts a miss, and the second faults the head TANK and rejects the joint
COUPLING.
A judgement left to a second SLOT_END is made as the head and its joint then stand, COOLING and RELEASE among them: a second miss
rejects a joint in RAMP, SOAK, FEED or COOL and keeps the outcome of any other; with the joint of the slot unbound in between, or
with no measurement, it is not made (R133; log 35). That the window is the one the working profile holds at the judgement, also
where a Write Profile came after the energy, is the model's choice (log 38). -/
def Obligations.TheTankIsTimedAndJudged : Prop :=
  (∀ (t t0 : Nat) (s : State), s.phase ≠ .held →
     (s.gen.tank = .armed → ∃ s' : State, exec (.tankMeasurementBegin t) s = .next s' ∧ s.Took t [] s' ∧
       s'.gen = { s.gen with tank := .timing (max s.now t) } ∧ s.KeepsAllBut [.now, .driven, .gen] s') ∧
     (s.gen.tank = .timing t0 → ∃ s' : State, exec (.tankMeasurementEnd t) s = .next s' ∧ s.Took t [] s' ∧
       (∃ f, s'.gen = { s.gen with tank := .ended f } ∧
         (t0 < max s.now t → f * (max s.now t - t0) ≤ 16000000 ∧ 16000000 < (f + 1) * (max s.now t - t0))) ∧
       s.KeepsAllBut [.now, .driven, .gen] s') ∧
     (s.gen.tank ≠ .armed → ∃ s' : State, exec (.tankMeasurementBegin t) s = .next s' ∧ s.Idles t s') ∧
     ((∀ since, s.gen.tank ≠ .timing since) → ∃ s' : State, exec (.tankMeasurementEnd t) s = .next s' ∧ s.Idles t s')) ∧
  (∀ (t : Nat) (order : SlotEndOrder) (cur : CurrentSlot) (g : Grant) (a : Account) (j : Joint) (f : Nat) (s : State),
     order ≠ .energyAlone → s.phase ≠ .held → s.TableOk → s.sched.current = some cur → cur.grant = some g → cur.cut = false →
     s.power.account = some a → a.head = g.head → (s.head g.head).state = .heating → (s.head g.head).bound = some a.joint →
     s.joint a.joint = some j → j.state.heating = true → s.gen.tank = .ended f →
     let p := (s.profileOf j).fields
     j.energy + a.demand * (s.config.running.slotLength - 1) ≤ p.maxEnergy * 1000 →
     ∃ s' : State, exec (.slotEnd t order) s = .next s' ∧ (s'.head g.head).lastTank = some f ∧
       (p.tankMin * 100 ≤ f → f ≤ p.tankMax * 100 → (s'.head g.head).tankMiss = 0 ∧ (s'.head g.head).state = .heating) ∧
       (f < p.tankMin * 100 ∨ p.tankMax * 100 < f →
         ((s.head g.head).tankMiss = 0 → (s'.head g.head).tankMiss = 1 ∧ (s'.head g.head).state = .heating) ∧
         (1 ≤ (s.head g.head).tankMiss → s'.StandsFaulted g.head .tank ∧ s'.StandsRejected a.joint .coupling))) ∧
  (∀ (t : Nat) (order : SlotEndOrder) (w : SlotTank) (s : State), s.phase ≠ .held → s.TableOk → s.sched.current = none →
     s.sched.judging = some w →
     let hd := s.head w.head
     let switched := if s.cell.state.running = true ∧ s.sched.startDue = none ∧
       (s.sched.entries s.sched.active).length ≤ s.sched.position + 1 ∧ s.sched.switchTo.isSome = true
       then [EventKind.slotsSwitched] else []
     ∃ s' : State, exec (.slotEnd t order) s = .next s' ∧ s.Took t [] s' ∧
       s.KeepsAllBut [.now, .driven, .table, .heads, .sched, .events] s' ∧
       (hd.bound ≠ w.joint ∨ hd.bound = none ∨ w.measured = none →
         s.KeepsAllBut [.now, .driven, .sched, .events] s' ∧ s.RaisedExactly switched s') ∧
       (∀ f k j, w.measured = some f → w.joint = some k → hd.bound = some k → s.joint k = some j →
         let p := (s.profileOf j).fields
         let ends := j.state.heating = true ∨ j.state = .cool
         (p.tankMin * 100 ≤ f → f ≤ p.tankMax * 100 →
           s.HeadBecomes w.head { hd with lastTank := some f, tankMiss := 0 } s' ∧ s'.table = s.table ∧
           s.RaisedExactly switched s') ∧
         (f < p.tankMin * 100 ∨ p.tankMax * 100 < f →
           (hd.tankMiss = 0 → s.HeadBecomes w.head { hd with lastTank := some f, tankMiss := 1 } s' ∧ s'.table = s.table ∧
             s.RaisedExactly switched s') ∧
           (1 ≤ hd.tankMiss → hd.state ∈ [.heating, .cooling, .release] → j.state ≠ .placed →
             s.HeadBecomes w.head { hd with
               state := .fault, faultCause := some .tank, bound := none, coolingUntil := none, lastTank := some f,
               tankMiss := 2 } s' ∧
             s.RecordBecomes k (if ends then { j with state := .rejected, cause := some .coupling, head := none }
               else { j with head := none }) s' ∧
             s.RaisedExactly ((if ends then [.jointRejected] else []) ++ [.headFault] ++ switched) s'))))

/-! ### Slot Scheduler -/

/-- A slot start decides the grant in the order of R99 to R103: the scheduled entry, satisfied or not; the first priority
entry whose head is eligible, matches and is not satisfied; the members of group 1 and then of group 2, each from the one after its pointer; otherwise the
slot is idle. Code 0 is loaded, then the switch opens from the previous head, then the granted one is connected (R105,
R156). A granted head is eligible, and moves the pointer of the group it came from. The slot start follows the slot end (R96):
while a tank judgement of that is left, and where no slot start is due, it changes nothing but the time (log 5, log 35). -/
def Obligations.SlotStartGrantsInOrder : Prop :=
  (∀ (t : Nat) (s : State), s.phase ≠ .held → s.sched.startDue = none →
    ∃ s' : State, exec (.slotStart t) s = .next s' ∧ s.Idles t s') ∧
  ∀ (t due : Nat) (s : State), s.phase ≠ .held → s.sched.startDue = some due →
    let eligible := fun (h : Fin 8) (j : Joint) (temp : Nat) => (s.head h).state = .heating ∧
      (∃ k, (s.head h).bound = some k ∧ s.joint k = some j) ∧ (j.state = .ramp ∨ j.state = .soak ∨ j.state = .feed) ∧
      meanOf (s.head h).window = some temp
    let fits := fun (q : Qualifier) (j : Joint) => match q with
      | .any => True
      | .ramp => j.state = .ramp
      | .hold => j.state = .soak ∨ j.state = .feed
    let wants := fun (q : Qualifier) (h : Fin 8) => ∃ j temp, eligible h j temp ∧ fits q j ∧
      temp < if j.state = .ramp then j.setpoint.getD 0 / 1000 else (s.profileOf j).fields.target
    (s.sched.judging.isSome = true → ∃ s' : State, exec (.slotStart t) s = .next s' ∧ s.Idles t s') ∧
    (s.sched.judging = none →
    ∃ (s' : State) (g : Option Grant), exec (.slotStart t) s = .next s' ∧ s'.now = max s.now (max t due) ∧
      s'.sched.current =
        some { position := s.sched.position, start := s'.now, grant := g, cut := false, guardEnded := false } ∧
      s'.gen = { s.gen with code := 0, connected := g.map Grant.head, tank := .off } ∧
      s'.driven = s.offActions ++ (match g with | some x => [.connect (some x.head)] | none => []) ∧
      s.KeepsAllBut [.now, .driven, .sched, .gen] s' ∧
      let scheduled := ∃ e j temp, (s.sched.entries s.sched.active)[s.sched.position]? = some e ∧ eligible e.head j temp ∧
        fits e.qualifier j
      let listed := ∃ e ∈ s.sched.priority, wants e.qualifier e.head
      let pick := fun (gr : RobinGroup) (h : Fin 8) => ∃ a b m passed later, gr.members = a ++ m :: b ∧ m ∉ a ∧
        gr.pointer = some m ∧ m ∉ b ∧ b ++ a ++ [m] = passed ++ h :: later ∧ wants .any h ∧
        ∀ h' ∈ passed, ¬ wants .any h'
      (∀ e j temp, (s.sched.entries s.sched.active)[s.sched.position]? = some e → eligible e.head j temp →
        fits e.qualifier j → g = some { head := e.head, source := .scheduled }) ∧
      (¬ scheduled → ∀ passed e later, s.sched.priority = passed ++ e :: later → wants e.qualifier e.head →
        (∀ e' ∈ passed, ¬ wants e'.qualifier e'.head) → g = some { head := e.head, source := .priority }) ∧
      (¬ scheduled → ¬ listed → ∀ h, pick s.sched.group1 h → g = some { head := h, source := .group1 }) ∧
      (¬ scheduled → ¬ listed → (∀ h ∈ s.sched.group1.members, ¬ wants .any h) → ∀ h, pick s.sched.group2 h →
        g = some { head := h, source := .group2 }) ∧
      (¬ scheduled → ¬ listed → (∀ h ∈ s.sched.group1.members, ¬ wants .any h) →
        (∀ h ∈ s.sched.group2.members, ¬ wants .any h) → s.sched.group1.Ok → s.sched.group2.Ok → g = none) ∧
      (∀ x, g = some x → ∃ j temp, eligible x.head j temp) ∧
      s'.sched.group1 = { s.sched.group1 with
        pointer := (g.bind fun x => if x.source = .group1 then some x.head else none).or s.sched.group1.pointer } ∧
      s'.sched.group2 = { s.sched.group2 with
        pointer := (g.bind fun x => if x.source = .group2 then some x.head else none).or s.sched.group2.pointer } ∧
      s'.sched.position = s.sched.position ∧ s'.sched.startDue = none ∧ s'.sched.switchTo = s.sched.switchTo ∧
      s'.sched.active = s.sched.active ∧ s'.sched.setA = s.sched.setA ∧ s'.sched.setB = s.sched.setB ∧
      s'.sched.priority = s.sched.priority ∧ s'.sched.judging = none)

/-- A slot end ends the output, advances the frame position, and at the end of the frame returns it to 0 and lets a pending
switch take effect, raising SLOTS SWITCHED (R96, R112); an idle or cut slot hands on nothing (R107). Where the tank judgement is
left to a second SLOT_END, the frame advances in that one, if the slots still run then (R97; log 35). With neither a slot nor
such a judgement, a SLOT_END changes nothing (log 5). -/
def Obligations.SlotEndAdvancesTheFrame : Prop :=
  ∀ (t : Nat) (order : SlotEndOrder) (s : State), s.phase ≠ .held →
    let atEnd := (s.sched.entries s.sched.active).length ≤ s.sched.position + 1
    let advanced := fun now : Nat => { s.sched with
      current := none, startDue := some now, position := if atEnd then 0 else s.sched.position + 1,
      active := if atEnd then s.sched.switchTo.getD s.sched.active else s.sched.active,
      switchTo := if atEnd then none else s.sched.switchTo }
    (∀ cur, s.sched.current = some cur →
      ∃ s' : State, exec (.slotEnd t order) s = .next s' ∧
        s'.now = max s.now (max t (cur.start + s.config.running.slotLength * 1000)) ∧ s'.gen.code = 0 ∧
        s'.gen.connected = s.gen.connected ∧ s'.gen.tank = .off ∧
        s'.driven = (if s.gen.code = 0 then [] else [.transfer (List.replicate 12 false)]) ∧
        (order ≠ .energyAlone ∨ cur.grant = none ∨ cur.cut = true → s'.sched = advanced s'.now) ∧
        (∀ g, order = .energyAlone → cur.grant = some g → cur.cut = false →
          s'.sched = { s.sched with
            current := none,
            judging := some { head := g.head, joint := (s.head g.head).bound, measured := s.gen.tank.result } }) ∧
        ((cur.grant = none ∨ cur.cut = true) → s.KeepsAllBut [.now, .driven, .sched, .gen, .events] s' ∧
          s.RaisedExactly (if atEnd ∧ s.sched.switchTo.isSome = true then [.slotsSwitched] else []) s')) ∧
    (s.sched.current = none → s.sched.judging.isSome = true →
      ∃ s' : State, exec (.slotEnd t order) s = .next s' ∧ s.Took t [] s' ∧
        s'.sched = (if s.cell.state.running = true ∧ s.sched.startDue = none then { advanced s'.now with judging := none }
          else { s.sched with judging := none }) ∧
        s.KeepsAllBut [.now, .driven, .table, .heads, .sched, .events] s') ∧
    (s.sched.current = none → s.sched.judging = none →
      ∃ s' : State, exec (.slotEnd t order) s = .next s' ∧ s.Idles t s')

/-- The three writes of the scheduler's lists (R108, R109, R114, R115): the checks in order, the first offending entry of a
Write Slots named; each new list holds, entry by entry, the head of that number and the qualifier of that code (R170); a group
just written is searched from its first member, its pointer at the last. -/
def Obligations.SchedulerListsAreReplacedWhole : Prop :=
  ∀ (t : Nat) (tag b : Byte) (entries : List (Byte × Byte)) (members : List Byte) (s : State), s.Takes .cell →
    entries.length ≤ 125 → members.length ≤ 249 →
    let good := fun e : Byte × Byte => e.1.toNat ≤ 7 ∧ e.2.toNat ≤ 2
    let spells := fun (e : Byte × Byte) (x : SlotEntry) =>
      x.head.val = e.1.toNat ∧ e.2 = match x.qualifier with | .any => 0 | .ramp => 1 | .hold => 2
    (entries.length ≤ 124 → ∃ s' : State, exec (.writeSlots t .cell tag b entries) s = .next s' ∧
      ((1 < b.toNat ∨ entries.length < 1 ∨ 16 < entries.length) → State.Replied t .cell tag .range [] [] s s') ∧
      (b.toNat ≤ 1 → 1 ≤ entries.length → entries.length ≤ 16 →
        (∀ n e, entries[n]? = some e → ¬ good e → (∀ m e', m < n → entries[m]? = some e' → good e') →
          State.Replied t .cell tag .range [byteOf n] [] s s') ∧
        ((∀ e ∈ entries, good e) →
          let set : SetName := if b = 0 then .a else .b
          if s.sched.switchTo = some set then State.Replied t .cell tag .busy [] [] s s'
          else if s.sched.active = set ∧ s.cell.state.running = true then State.Replied t .cell tag .state [] [] s s'
          else State.Replied t .cell tag .ok [b, byteOf entries.length] [.sched] s s' ∧
            ∃ slots : List SlotEntry, List.Forall₂ spells entries slots ∧
              s'.sched = (if b = 0 then { s.sched with setA := slots } else { s.sched with setB := slots })))) ∧
    (∃ s' : State, exec (.writePriority t .cell tag entries) s = .next s' ∧
      (entries.length ≤ 8 → (∀ e ∈ entries, good e) → (entries.map Prod.fst).Nodup →
        State.Replied t .cell tag .ok [] [.sched] s s' ∧
        ∃ listed : List SlotEntry, List.Forall₂ spells entries listed ∧ s'.sched = { s.sched with priority := listed }) ∧
      ((8 < entries.length ∨ (∃ e ∈ entries, ¬ good e) ∨ ¬ (entries.map Prod.fst).Nodup) →
        State.Replied t .cell tag .range [] [] s s')) ∧
    (∃ s' : State, exec (.writeGroup t .cell tag b members) s = .next s' ∧
      ((b = 1 ∨ b = 2) → members.length ≤ 8 → (∀ m ∈ members, m.toNat ≤ 7) → members.Nodup →
        State.Replied t .cell tag .ok [] [.sched] s s' ∧
        ∃ gr : RobinGroup, List.Forall₂ (fun (m : Byte) (h : Fin 8) => h.val = m.toNat) members gr.members ∧
          gr.pointer = gr.members.getLast? ∧ gr.Ok ∧
          s'.sched = (if b = 1 then { s.sched with group1 := gr } else { s.sched with group2 := gr })) ∧
      (((b ≠ 1 ∧ b ≠ 2) ∨ 8 < members.length ∨ (∃ m ∈ members, 7 < m.toNat) ∨ ¬ members.Nodup) →
        State.Replied t .cell tag .range [] [] s s'))

/-- A Switch Slots is judged by R111; it takes effect at once in HOLD and TRIPPED, and is left pending in RUN and DERATED
(R112). -/
def Obligations.SwitchSlotsWaitsForTheFrameEnd : Prop :=
  ∀ (t : Nat) (tag b : Byte) (s : State), s.Takes .cell →
    ∃ s' : State, exec (.switchSlots t .cell tag b) s = .next s' ∧
    let set : SetName := if b = 0 then .a else .b
    if 1 < b.toNat then State.Replied t .cell tag .range [] [] s s'
    else if s.sched.switchTo.isSome = true then State.Replied t .cell tag .busy [] [] s s'
    else if s.sched.entries set = [] then State.Replied t .cell tag .empty [] [] s s'
    else if s.sched.active = set then State.Replied t .cell tag .ok [0] [] s s'
    else if s.cell.state.running = true then
      State.Replied t .cell tag .ok [1] [.sched] s s' ∧ s'.sched = { s.sched with switchTo := some set }
    else State.Replied t .cell tag .ok [0] [.sched, .events] s s' ∧ s.RaisedExactly [.slotsSwitched] s' ∧
      s'.sched = { s.sched with active := set, position := 0 }

/-! ### Head Channels -/

/-- Enable Head, Disable Head and Clear Fault (R138, R139, R140): who may take them, and what of the one head changes. -/
def Obligations.HeadRequestsChangeOneHead : Prop :=
  ∀ (t : Nat) (tag b : Byte) (s : State), s.Takes .cell →
    (∃ s' : State, exec (.enableHead t .cell tag b) s = .next s' ∧
      match headOf b with
      | none => State.Replied t .cell tag .range [] [] s s'
      | some h =>
        if s.config.running.headCount ≤ b.toNat then State.Replied t .cell tag .range [] [] s s'
        else if (s.head h).state ≠ .off then State.Replied t .cell tag .state [] [] s s'
        else State.Replied t .cell tag .ok [] [.heads] s s' ∧
          s.HeadBecomes h { state := .idle, bound := (s.head h).bound, faultCause := none, window := [], missed := 0,
                            clampClosed := false, clampCount := 0, lastFlow := none, lowFlow := 0, lastTank := none,
                            tankMiss := 0, coolingUntil := none, stepsWaiting := 0, kept := none, flowPulses := 0,
                            flowOpened := max s.now t, closeDue := (s.head h).closeDue } s') ∧
    (∃ s' : State, exec (.disableHead t .cell tag b) s = .next s' ∧
      match headOf b with
      | none => State.Replied t .cell tag .range [] [] s s'
      | some h =>
        if ((s.head h).state = .idle ∨ (s.head h).state = .fault) ∧ (s.head h).stepsWaiting = 0 then
          State.Replied t .cell tag .ok [] [.heads] s s' ∧
          s.HeadBecomes h { s.head h with state := .off, faultCause := none } s'
        else State.Replied t .cell tag .state [] [] s s') ∧
    (∃ s' : State, exec (.clearFault t .cell tag b) s = .next s' ∧
      match headOf b with
      | none => State.Replied t .cell tag .range [] [] s s'
      | some h =>
        if (s.head h).state = .fault ∧ (∀ n ∈ (s.head h).lastFlow, s.config.running.flowMinimum ≤ n) then
          State.Replied t .cell tag .ok [] [.heads] s s' ∧
          s.HeadBecomes h { s.head h with state := .idle, faultCause := none, missed := 0, tankMiss := 0 } s'
        else State.Replied t .cell tag .state [] [] s s')

/-- The lines of a head between its closes: a reading is classified and kept (R121), a flow pulse counted up to 255 (R130),
a waiting feeder step issued as one pulse (R134); a head in OFF heeds none of its inputs (R120). A close of an IDLE, LOADED or
FAULT head handles the reading and the clamp's run, and faults nothing (R122 to R126); its bound record sees the reading.
That readings and flow pulses count from Enable Head on, before the next period close, is the model's choice (log 36). -/
def Obligations.HeadLinesChangeOneHead : Prop :=
  ∀ (t x : Nat) (h : Fin 8) (cls : ReadingClass) (parityOk clampHigh : Bool) (s : State), s.phase ≠ .held →
    (∃ s' : State, exec (.readingReceived t h cls x parityOk false) s = .next s' ∧ s.Took t [] s' ∧
      s.KeepsAllBut [.now, .driven, .heads] s' ∧
      if (s.head h).state = .off then s'.heads = s.heads
      else s.HeadBecomes h { s.head h with kept := some (
        if parityOk = false then .bad
        else match cls with
          | .valid => if 250 ≤ x ∧ x ≤ 1150 then .valid x else .bad
          | .under => .under
          | .over => .over
          | .other => .bad) } s') ∧
    (∃ s' : State, exec (.readingReceived t h cls x parityOk true) s = .next s' ∧ s.Idles t s') ∧
    (∃ s' : State, exec (.flowPulse t h) s = .next s' ∧ s.Took t [] s' ∧ s.KeepsAllBut [.now, .driven, .heads] s' ∧
      if (s.head h).state = .off then s'.heads = s.heads
      else s.HeadBecomes h { s.head h with flowPulses := min 255 ((s.head h).flowPulses + 1) } s') ∧
    (∃ s' : State, exec (.feederPulse t h) s = .next s' ∧ s'.now = max s.now t ∧
      s.KeepsAllBut [.now, .driven, .heads] s' ∧
      if (s.head h).stepsWaiting = 0 then s'.heads = s.heads ∧ s'.driven = []
      else s.HeadBecomes h { s.head h with stepsWaiting := (s.head h).stepsWaiting - 1 } s' ∧
        s'.driven = [.feederPulse h]) ∧
    (s.TableOk → (s.head h).state ∈ [.off, .idle, .loaded, .fault] →
      (s.head h).clampHolds clampHigh s.config.running.clampFilter →
      ∃ s' : State, exec (.periodClose t h clampHigh) s = .next s' ∧ s'.now = max s.now (max t (s.head h).closeDue) ∧
        s.KeepsAllBut [.now, .driven, .heads, .table] s' ∧
        if (s.head h).state = .off then
          s.HeadBecomes h { s.head h with closeDue := s'.now + 2000 } s' ∧ s'.table = s.table ∧ s'.driven = []
        else
          s.HeadBecomes h ((s.head h).afterClose (countsAs (s.head h).kept) clampHigh s'.now) s' ∧
          s'.driven = List.replicate (s.head h).stepsWaiting (.feederPulse h) ∧
          match s.boundJoint h with
          | some j => s.RecordBecomes j.key (j.withReading (countsAs (s.head h).kept)) s'
          | none => s'.table = s.table)

/-- A flow window closes 100 ms after it opened (R130, R131): it is counted low or not; the second low one in a row faults a
working head FLOW, cuts an output that is its own (R106), rejects a joint in heating or COOL with COOLANT, charged for its output
so far (R89, R135), returns a PLACED one to PLANNED, keeps the outcome of a DONE or REJECTED one, and unbinds any, with HEAD FAULT
raised; a good one starts a LOADED head that is ready, with everything R49 sets. Otherwise the head's window alone is done. A head
in OFF closes no window (R120). -/
def Obligations.FlowWindowsFaultOrStart : Prop :=
  ∀ (t : Nat) (h : Fin 8) (s : State), s.phase ≠ .held →
    ((s.head h).state = .off → ∃ s' : State, exec (.flowWindowClose t h) s = .next s' ∧ s.Idles t s') ∧
    (s.TableOk → s.BindingsOk → (s.head h).state ≠ .off →
      let hd := s.head h
      let low := hd.flowPulses < s.config.running.flowMinimum
      let closed := fun now : Nat => { hd with
        lastFlow := some hd.flowPulses, lowFlow := if low then min 2 (hd.lowFlow + 1) else 0, flowPulses := 0,
        flowOpened := now }
      let faults := low ∧ 1 ≤ hd.lowFlow ∧ hd.state ≠ .fault
      let starts := ¬ low ∧ hd.state = .loaded ∧ hd.clampClosed = true ∧ s.cell.state.running = true ∧
        (s.boundProfile h).any (fun p => p.valid) = true
      ∃ s' : State, exec (.flowWindowClose t h) s = .next s' ∧ s'.now = max s.now (max t (hd.flowOpened + 100000)) ∧
        s.KeepsAllBut [.now, .driven, .table, .heads, .power, .sched, .gen, .events] s' ∧
        (faults → s.OutputOk → s'.StandsFaulted h .flow ∧
          s.HeadBecomes h { closed s'.now with
            state := .fault, faultCause := some .flow, bound := none, coolingUntil := none } s' ∧
          s.OutputCutFor h [] s' ∧
          (hd.bound = none → s'.table = s.table ∧ s.RaisedExactly [.headFault] s') ∧
          ∀ k j, hd.bound = some k → s.joint k = some j →
            ((j.state = .done ∨ j.state = .rejected) → s.RecordBecomes k { j with head := none } s' ∧
              s.RaisedExactly [.headFault] s') ∧
            ((j.state.heating = true ∨ j.state = .cool) → s'.StandsRejected k .coolant ∧
              s.RecordBecomes k { j with
                state := .rejected, cause := some .coolant, head := none, energy := s.energyAfterCut s'.now j } s' ∧
              s.RaisedExactly [.jointRejected, .headFault] s') ∧
            (j.state = .placed → s.RecordBecomes k { j with state := .planned, head := none } s' ∧
              s.RaisedExactly [.headFault] s')) ∧
        (starts → ∃ k j, hd.bound = some k ∧ s.joint k = some j ∧
          s.RecordBecomes k (j.started (meanOf hd.window) (s.profileOf j).fields.target) s' ∧
          s.HeadBecomes h { closed s'.now with state := .heating, missed := 0, tankMiss := 0 } s' ∧
          s'.power = { s.power with startRefs := s.power.startRefs.set h (some (s'.now / 1000)) } ∧ s'.driven = [] ∧
          s.KeepsAllBut [.now, .driven, .table, .heads, .power] s') ∧
        (¬ faults → ¬ starts → s.HeadBecomes h (closed s'.now) s' ∧ s'.driven = [] ∧
          s.KeepsAllBut [.now, .driven, .heads] s'))

/-! ### Supply Monitor and Cell Control -/

/-- Where one DC-link sample completes both runs, either judgement may be taken first with the same result (R144).
A DC-link sample is converted to whole V and judged against the warning pair (R144, R145): its side changes at the fourth
sample in a row on the new side, which sets or clears the flag, moves the cell between RUN and DERATED, and raises SUPPLY
WARNING; any other sample only counts. Here the trip pair is not crossed. -/
def Obligations.DcLinkSamplesAreJudgedInEitherOrder : Prop :=
  (∀ (t : Nat) (v : Fin 1023001) (s : State), exec (.dcLinkSample t v true) s = exec (.dcLinkSample t v false) s) ∧
  (∀ (t : Nat) (v : Fin 1023001) (first : Bool) (s : State), s.phase ≠ .held → s.cell.warningCount ≤ 3 →
     let volts := v.val / 1000
     let th := s.config.running.supplyLevel.thresholds
     let newSide := if s.cell.warningLow then th.warningClear ≤ volts else volts < th.warningSet
     let tripSide := if s.cell.tripBelow then th.release ≤ volts else volts < th.trip
     ¬ (tripSide ∧ 3 ≤ s.cell.tripCount) →
     ∃ s' : State, exec (.dcLinkSample t v first) s = .next s' ∧ s.Took (max t s.cell.voltsDue) [] s' ∧
       s.KeepsAllBut [.now, .driven, .cell, .events] s' ∧
       s.RaisedExactly (if newSide ∧ s.cell.warningCount = 3 then [.supplyWarning] else []) s' ∧
       s'.cell = { s.cell with
         lastVolts := some volts, voltsDue := s'.now + 1000,
         tripCount := if tripSide then s.cell.tripCount + 1 else 0,
         warningCount := if newSide ∧ s.cell.warningCount < 3 then s.cell.warningCount + 1 else 0,
         warningLow := if newSide ∧ s.cell.warningCount = 3 then !s.cell.warningLow else s.cell.warningLow,
         warning := if newSide ∧ s.cell.warningCount = 3 then !s.cell.warningLow else s.cell.warning,
         state := if newSide ∧ s.cell.warningCount = 3 then
             (if s.cell.warningLow then (if s.cell.state = .derated then .run else s.cell.state)
              else (if s.cell.state = .run then .derated else s.cell.state))
           else s.cell.state })

/-- A trip, by the fourth sample in a row below the trip level or by an assertion of the fault line (R144, R146, R147, R148):
every heating joint is rejected with the trip's cause, charged for its output so far (R87, R89), and its head cools it (R62);
every other record and head stays; the cell is TRIPPED with the cause added, the scheduler stands, code 0 is loaded, then the
switch opens, then GEN falls (R156). JOINT REJECTED is raised once for each heating joint, SLOTS SWITCHED once where a pending
switch takes effect (R112), CELL TRIPPED once, and no other kind but for SUPPLY WARNING: a supply trip's sample is judged
against the warning pair, too (R144, R145). -/
def Obligations.TripsEndAllHeating : Prop :=
  ∀ (t : Nat) (v : Fin 1023001) (first supply : Bool) (s : State), s.phase ≠ .held → s.TableOk → s.BindingsOk →
    s.HeatingOnlyRunning → s.CellOk → s.SchedOk → s.OutputOk →
    (if supply then s.cell.tripBelow = false ∧ s.cell.tripCount = 3 ∧
        v.val / 1000 < s.config.running.supplyLevel.thresholds.trip
      else s.cell.faultLine = false) →
    ∃ s' : State, exec (if supply then .dcLinkSample t v first else .faultLineSample t true) s = .next s' ∧
      s'.now = max s.now (max t (if supply then s.cell.voltsDue else s.cell.faultLineDue)) ∧
      s'.cell.state = .tripped ∧ s'.cell.causeSupply = (supply || s.cell.causeSupply) ∧
      s'.cell.causeGenerator = (!supply || s.cell.causeGenerator) ∧
      (supply = true →
        let volts := v.val / 1000
        let th := s.config.running.supplyLevel.thresholds
        let newSide := if s.cell.warningLow then th.warningClear ≤ volts else volts < th.warningSet
        let crosses := newSide ∧ s.cell.warningCount = 3
        s'.cell = { s.cell with
          state := .tripped, causeSupply := true, lastVolts := some volts, voltsDue := s'.now + 1000, tripBelow := true,
          tripCount := 0, warningCount := if newSide ∧ s.cell.warningCount < 3 then s.cell.warningCount + 1 else 0,
          warningLow := if crosses then !s.cell.warningLow else s.cell.warningLow,
          warning := if crosses then !s.cell.warningLow else s.cell.warning } ∧
        s.RaisedCounting (s.rejectionEvents ++ [.cellTripped] ++ if crosses then [.supplyWarning] else []) s') ∧
      (supply = false → s'.cell = { s.cell with
        state := .tripped, causeGenerator := true, faultLine := true, clearFlag := false,
        faultLineDue := s'.now + 1000 } ∧ s.RaisedCounting (s.rejectionEvents ++ [.cellTripped]) s') ∧
      s.HeatingRejected (if supply then .supply else .generator) s' ∧
      s.OutputEnds s' ∧ s'.power = { s.power with account := none } ∧
      s'.sched = { s.sched with position := 0, current := none, startDue := none, switchTo := none,
                                active := s.sched.switchTo.getD s.sched.active } ∧
      s.KeepsAllBut [.now, .driven, .table, .heads, .power, .sched, .gen, .cell, .events] s'

/-- A tripped cell returns to HOLD once the link is above the trip side, the line is deasserted and, after a generator trip,
the clear flag is set (R149): at a deassertion of the line (R146), at a Clear Trip, which is refused outside TRIPPED and
under an asserted line (R150), and at the fourth DC-link sample in a row at or above the release level (R144). A fault-line
sample that shows the level held changes nothing (R146). -/
def Obligations.RecoveryNeedsAllThreeConditions : Prop :=
  ∀ (t : Nat) (v : Fin 1023001) (first : Bool) (tag : Byte) (s : State), s.phase ≠ .held →
    (∃ s' : State, exec (.faultLineSample t s.cell.faultLine) s = .next s' ∧ s.Took (max t s.cell.faultLineDue) [] s' ∧
      s'.cell = { s.cell with faultLineDue := s'.now + 1000 } ∧ s.KeepsAllBut [.now, .driven, .cell] s') ∧
    (s.CellOk → s.cell.tripBelow = true → s.cell.tripCount = 3 →
      s.config.running.supplyLevel.thresholds.release ≤ v.val / 1000 →
      let volts := v.val / 1000
      let th := s.config.running.supplyLevel.thresholds
      let newSide := if s.cell.warningLow then th.warningClear ≤ volts else volts < th.warningSet
      let crosses := newSide ∧ s.cell.warningCount = 3
      let recovers := s.cell.faultLine = false ∧ (s.cell.causeGenerator = true → s.cell.clearFlag = true)
      ∃ s' : State, exec (.dcLinkSample t v first) s = .next s' ∧ s.Took (max t s.cell.voltsDue) [] s' ∧
        s.KeepsAllBut [.now, .driven, .cell, .events] s' ∧
        s.RaisedExactly ((if crosses then [.supplyWarning] else []) ++ (if recovers then [.cellRecovered] else [])) s' ∧
        s'.cell = { s.cell with
          lastVolts := some volts, voltsDue := s'.now + 1000, tripBelow := false, tripCount := 0,
          warningCount := if newSide ∧ s.cell.warningCount < 3 then s.cell.warningCount + 1 else 0,
          warningLow := if crosses then !s.cell.warningLow else s.cell.warningLow,
          warning := if crosses then !s.cell.warningLow else s.cell.warning,
          state := if recovers then .hold else .tripped,
          causeSupply := if recovers then false else s.cell.causeSupply,
          causeGenerator := if recovers then false else s.cell.causeGenerator,
          clearFlag := if recovers then false else s.cell.clearFlag }) ∧
    (s.cell.faultLine = true → ∃ s' : State, exec (.faultLineSample t false) s = .next s' ∧
      s.Took (max t s.cell.faultLineDue) [] s' ∧ s.KeepsAllBut [.now, .driven, .cell, .events] s' ∧
      let sampled := { s.cell with faultLine := false, faultLineDue := s'.now + 1000 }
      if s.cell.state = .tripped ∧ s.cell.tripBelow = false ∧ (s.cell.causeGenerator = true → s.cell.clearFlag = true) then
        s'.cell = { sampled with state := .hold, causeSupply := false, causeGenerator := false, clearFlag := false } ∧
        s.RaisedExactly [.cellRecovered] s'
      else s'.cell = sampled ∧ s.RaisedExactly [] s') ∧
    (s.Takes .cell → ∃ s' : State, exec (.clearTrip t .cell tag) s = .next s' ∧
      if s.cell.state = .tripped ∧ s.cell.faultLine = false then
        if s.cell.tripBelow = false then
          State.Replied t .cell tag .ok [0, 0] [.cell, .events] s s' ∧ s.RaisedExactly [.cellRecovered] s' ∧
          s'.cell = { s.cell with state := .hold, causeSupply := false, causeGenerator := false, clearFlag := false }
        else
          State.Replied t .cell tag .ok
            [3, byteOf ((if s.cell.causeSupply then 1 else 0) + (if s.cell.causeGenerator then 2 else 0))] [.cell] s s' ∧
          s'.cell = { s.cell with clearFlag := true }
      else State.Replied t .cell tag .state [] [] s s')

/-- A Start is judged by R151; taken from HOLD it makes the cell RUN, or DERATED while the warning stands, raises GEN, starts
every LOADED head that is ready, with everything R49 sets, and no other, and sets the scheduler to start at position 0 (R95). Every
other record and head stays. The payload of the OK
answer of a running cell is the model's choice (log 16). -/
def Obligations.StartRunsTheCell : Prop :=
  ∀ (t : Nat) (tag : Byte) (s : State), s.Takes .cell → s.TableOk → s.BindingsOk →
    ∃ s' : State, exec (.start t .cell tag) s = .next s' ∧
    (s.cell.state = .tripped → State.Replied t .cell tag .state [] [] s s') ∧
    (s.cell.state.running = true → State.Replied t .cell tag .ok [if s.cell.state = .run then 1 else 2, 0] [] s s') ∧
    (s.cell.state = .hold → s.sched.entries s.sched.active = [] → State.Replied t .cell tag .empty [] [] s s') ∧
    (s.cell.state = .hold → s.sched.entries s.sched.active ≠ [] →
      let ready := fun h : Fin 8 => decide ((s.head h).state = .loaded) && (s.boundProfile h).any (fun p => p.valid) &&
        (s.head h).clampClosed && decide (∀ n ∈ (s.head h).lastFlow, s.config.running.flowMinimum ≤ n)
      s'.cell = { s.cell with state := if s.cell.warning then .derated else .run } ∧ s'.gen = { s.gen with enable := true } ∧
      s'.sched = { s.sched with position := 0, startDue := some (max s.now t) } ∧
      s'.driven = (if s.gen.enable then [] else [.enable true]) ∧
      (∀ h : Fin 8, if ready h = true then
          s'.head h = { s.head h with state := .heating, missed := 0, tankMiss := 0 } ∧
          s'.power.startRefs.get h = some (max s.now t / 1000) ∧
          ∃ k j, (s.head h).bound = some k ∧ s.joint k = some j ∧
            s'.joint k = some (j.started (meanOf (s.head h).window) (s.profileOf j).fields.target)
        else s'.head h = s.head h ∧ s'.power.startRefs.get h = s.power.startRefs.get h) ∧
      (∀ x ∈ s.table.records, (∀ h : Fin 8, ready h = true → (s.head h).bound ≠ some x.2.key) → x ∈ s'.table.records) ∧
      s'.table.records.map (fun x => (x.1, x.2.key)) = s.table.records.map (fun x => (x.1, x.2.key)) ∧
      s'.table.mark = s.table.mark ∧ s'.power = { s.power with startRefs := s'.power.startRefs } ∧ s'.now = max s.now t ∧
      s.Answers .cell .ok tag [if s.cell.warning then 2 else 1, byteOf (allHeads.countP ready)] s' ∧
      s.KeepsAllBut [.now, .driven, .links, .cell, .gen, .sched, .table, .heads, .power] s')

/-- A Stop is refused BUSY while a head is HEATING (R152); a Halt All rejects every heating joint ABORTED in any state, charged
for its output so far, with its head to cool it (R62, R89, R153), JOINT REJECTED raised once for each of them, SLOTS SWITCHED
where a pending switch takes effect, and no other kind; in a cell that does not run it leaves the output as it is.
Either takes a running cell to HOLD with the scheduler stopped: code 0 is loaded, then the switch opens, then GEN falls
(R97, R156). -/
def Obligations.StopAndHaltAllEndTheRun : Prop :=
  ∀ (t : Nat) (tag : Byte) (s : State), s.Takes .cell → s.TableOk → s.BindingsOk → s.CellOk → s.SchedOk → s.OutputOk →
    let stopped := fun s' : State => s'.cell = { s.cell with state := .hold } ∧ s.OutputEnds s' ∧
      s'.power = { s.power with account := none } ∧
      s'.sched = { s.sched with position := 0, current := none, startDue := none, switchTo := none,
                                active := s.sched.switchTo.getD s.sched.active }
    (∃ s' : State, exec (.stop t .cell tag) s = .next s' ∧
      (s.cell.state = .tripped → State.Replied t .cell tag .state [] [] s s') ∧
      (s.cell.state = .hold → State.Replied t .cell tag .ok [] [] s s') ∧
      (s.cell.state.running = true →
        ((∃ h : Fin 8, (s.head h).state = .heating) → State.Replied t .cell tag .busy [] [] s s') ∧
        ((∀ h : Fin 8, (s.head h).state ≠ .heating) → stopped s' ∧ s'.now = max s.now t ∧ s.Answers .cell .ok tag [] s' ∧
          s.RaisedExactly (if s.sched.switchTo.isSome then [.slotsSwitched] else []) s' ∧
          s.KeepsAllBut [.now, .driven, .links, .power, .sched, .gen, .cell, .events] s'))) ∧
    (∃ s' : State, exec (.haltAll t .cell tag) s = .next s' ∧ s'.now = max s.now t ∧
      s.HeatingRejected .aborted s' ∧
      s.RaisedCounting s.rejectionEvents s' ∧ (s.cell.state.running = true → stopped s') ∧
      (s.cell.state.running = false → s'.cell = s.cell ∧ s'.sched = s.sched ∧ s'.gen = s.gen ∧ s'.power = s.power ∧
        s'.driven = []) ∧
      s.Answers .cell .ok tag [byteOf (s.table.records.countP fun x => x.2.state.heating),
        if s.cell.state = .tripped then 3 else 0] s' ∧
      s.KeepsAllBut [.now, .driven, .links, .table, .heads, .power, .sched, .gen, .cell, .events] s')

/-! ### What is read -/

/-- The five reports (R37, R110, R141, R154, R184): each answers its record, field by field in the layouts of R170 and R172,
refuses a number its table does not list, and changes nothing. The ms left of a cooling timer are rounded up by the model's
reading (log 22). -/
def Obligations.ReportsChangeNothing : Prop :=
  ∀ (t : Nat) (tag b : Byte) (s : State), s.Takes .cell →
    let flag := fun x : Bool => if x then (1 : Byte) else 0
    let absent := fun (width : Nat) (x : Option (List Byte)) => match x with
      | some bytes => (1 : Byte) :: bytes
      | none => List.replicate (width + 1) 0
    let rows := fun xs : List (List Byte) => byteOf xs.length :: xs.flatten
    (∃ s' : State, exec (.readProfile t .cell tag b) s = .next s' ∧ match profileNumberOf b with
      | none => State.Replied t .cell tag .range [] [] s s'
      | some n =>
        let p := s.profiles.working.get n
        let f := p.fields
        State.Replied t .cell tag .ok ([b, flag p.valid,
          match p.status with | .stored => 0 | .written => 1 | .lost => 2] ++
          [f.target, f.soakBand, f.overshoot, f.solidus, f.rampRate, f.soakTime, f.kp, f.ki, f.powerCeiling, f.maxEnergy,
           f.maxRampTime, f.feedLength, f.feedRate, f.coolTime, f.tankMin, f.tankMax].flatMap bytes2) [] s s') ∧
    (∃ s' : State, exec (.readSlots t .cell tag b) s = .next s' ∧
      if 1 < b.toNat then State.Replied t .cell tag .range [] [] s s'
      else
        let sc := s.sched
        let set := fun n : SetName => match n with | .a => (0 : Byte) | .b => 1
        let entry := fun e : SlotEntry => [byteOf e.head.val, match e.qualifier with | .any => 0 | .ramp => 1 | .hold => 2]
        let group := fun gr : RobinGroup => rows (gr.members.map fun h => [byteOf h.val]) ++
          absent 1 (gr.pointer.map fun h => [byteOf h.val])
        let slot := fun c : CurrentSlot => [byteOf c.position] ++ (match c.grant with
          | some g => [byteOf g.head.val,
              match g.source with | .scheduled => 0 | .priority => 1 | .group1 => 2 | .group2 => 3]
          | none => [0, 4]) ++ [flag c.cut]
        State.Replied t .cell tag .ok (rows ((if b = 0 then sc.setA else sc.setB).map entry) ++ [set sc.active] ++
          absent 1 (sc.switchTo.map fun n => [set n]) ++ [byteOf sc.position] ++ absent 4 (sc.current.map slot) ++
          rows (sc.priority.map entry) ++ group sc.group1 ++ group sc.group2) [] s s') ∧
    (∃ s' : State, exec (.readHead t .cell tag b) s = .next s' ∧ match headOf b with
      | none => State.Replied t .cell tag .range [] [] s s'
      | some h =>
        let hd := s.head h
        State.Replied t .cell tag .ok ([(match hd.state with
            | .off => 0 | .idle => 1 | .loaded => 2 | .heating => 3 | .cooling => 4 | .release => 5 | .fault => 6 : Byte)] ++
          absent 4 (hd.bound.map keyBytes) ++ [(match hd.faultCause with
            | none => 0 | some .flow => 1 | some .sample => 2 | some .tank => 3 : Byte)] ++
          rows (hd.window.map bytes2) ++ absent 2 ((meanOf hd.window).map bytes2) ++
          [byteOf hd.missed, flag hd.clampClosed, byteOf hd.clampCount] ++
          absent 1 (hd.lastFlow.map fun n => [byteOf n]) ++ [byteOf hd.lowFlow] ++
          absent 4 (hd.lastTank.map fun f => bytes2 (f / 65536) ++ bytes2 f) ++ [byteOf hd.tankMiss] ++
          absent 2 (hd.coolingUntil.map fun e => bytes2 ((e - max s.now t + 999) / 1000)) ++ [byteOf hd.stepsWaiting])
          [] s s') ∧
    (∃ s' : State, exec (.readCell t .cell tag) s = .next s' ∧
      let c := s.cell
      State.Replied t .cell tag .ok ([(match c.state with | .hold => 0 | .run => 1 | .derated => 2 | .tripped => 3 : Byte),
          flag c.warning, (if c.causeSupply then 1 else 0) + (if c.causeGenerator then 2 else 0)] ++
        absent 2 (c.lastVolts.map bytes2) ++ [flag c.warningLow, byteOf c.warningCount, flag c.tripBelow, byteOf c.tripCount,
          flag c.faultLine, flag c.clearFlag] ++
        (match s.config.running.supplyLevel with
          | .l => [0] ++ bytes2 500 ++ bytes2 515 ++ bytes2 450 ++ bytes2 480
          | .m => [1] ++ bytes2 520 ++ bytes2 535 ++ bytes2 470 ++ bytes2 500
          | .h => [2] ++ bytes2 540 ++ bytes2 555 ++ bytes2 490 ++ bytes2 520)) [] s s') ∧
    (∃ s' : State, exec (.readConfig t .cell tag) s = .next s' ∧
      let c := s.config
      let r := c.running
      State.Replied t .cell tag .ok ([(match c.status with | .loaded => 0 | .written => 1 | .bad => 2 : Byte)] ++
        (if c.status = .bad then List.replicate 19 0
          else [c.stored.headCount] ++ bytes2 c.stored.rating.toNat ++ [c.stored.slotLength, c.stored.derate,
            c.stored.supplyLevel, c.stored.clampFilter, c.stored.flowMinimum, c.stored.sampleLoss, c.stored.linkSpeed] ++
            c.stored.levels.toList) ++
        [byteOf r.headCount] ++ bytes2 r.rating ++ [byteOf r.slotLength, byteOf r.derate,
          match r.supplyLevel with | .l => 0 | .m => 1 | .h => 2, byteOf r.clampFilter, byteOf r.flowMinimum,
          byteOf r.sampleLoss, match r.linkSpeed with | .baud115200 => 0 | .baud460800 => 1] ++
        r.levels.toList.map (fun l => byteOf l.val) ++ [flag c.defaultsFlag]) [] s s')

/-- An Identify answers the part code 0x0B28, the revision 0x01 and the defaults flag on either link, and changes nothing. -/
def Obligations.IdentifyAnswersThePartCode : Prop :=
  ∀ (t : Nat) (l : Link) (tag : Byte) (s : State), s.phase = .operating →
    ∃ s' : State, exec (.identify t l tag) s = .next s' ∧
      (s.Takes l → State.Replied t l tag .ok [0x0B, 0x28, 0x01, if s.config.defaultsFlag then 1 else 0] [] s s') ∧
      ((s.link l).hasPlace = true → (s.link l).inProgress.isSome = true → State.Replied t l tag .busy [] [] s s') ∧
      ((s.link l).hasPlace = false → s.KeepsAllBut [.now, .driven, .links, .events] s' ∧
        (s'.link l).answers = (s.link l).answers)

/-! ### Event Unit -/

/-- A raise sets a clear flag with count 1, and raises the count of a set one, saturating at 255; the kind's level, and
every other kind, stay as they are (R174). Several raises in one event each count, so a trip raises JOINT REJECTED once for
each heating joint and CELL TRIPPED once, whatever the levels (R147, R148, R174). -/
def Obligations.ARaiseSetsTheFlagAndCounts : Prop :=
  (∀ (k : EventKind) (s : State),
    ((s.events.get k.code).pending = false →
      (s.raise k).events.get k.code = { s.events.get k.code with pending := true, count := 1 }) ∧
    ((s.events.get k.code).pending = true →
      (s.raise k).events.get k.code = { s.events.get k.code with count := min 255 ((s.events.get k.code).count + 1) }) ∧
    (∀ n : Fin 9, n ≠ k.code → (s.raise k).events.get n = s.events.get n) ∧ s.KeepsAllBut [.events] (s.raise k)) ∧
  (∀ (kinds : List EventKind) (k : EventKind) (s : State), s.EventsOk →
    let before := s.events.get k.code
    (kinds.foldl (fun s k => s.raise k) s).events.get k.code =
      { before with pending := before.pending || kinds.contains k, count := min 255 (before.count + kinds.count k) }) ∧
  (∀ (t : Nat) (s : State), s.phase ≠ .held → s.TableOk → s.BindingsOk → s.HeatingOnlyRunning → s.EventsOk →
    s.cell.faultLine = false →
    ∃ s' : State, exec (.faultLineSample t true) s = .next s' ∧
      let before := fun k : EventKind => s.events.get k.code
      let after := fun k : EventKind => s'.events.get k.code
      (after .jointRejected).count =
        min 255 ((before .jointRejected).count + s.table.records.countP fun x => x.2.state.heating) ∧
      (after .cellTripped).count = min 255 ((before .cellTripped).count + 1) ∧ (after .cellTripped).pending = true)

/-- A Read Events lists exactly the pending kinds, by level and then by code, each with its code, level and count, then the
nine levels and ATTN (R176); it changes nothing. -/
def Obligations.ReadEventsListsByLevelThenCode : Prop :=
  ∀ (t : Nat) (tag : Byte) (s : State), s.Takes .cell →
    ∃ (s' : State) (kinds : List (Fin 9)), exec (.readEvents t .cell tag) s = .next s' ∧
      (∀ k, k ∈ kinds ↔ (s.events.get k).pending = true) ∧
      (kinds.Pairwise fun a b => (s.events.get a).level < (s.events.get b).level ∨
        ((s.events.get a).level = (s.events.get b).level ∧ a < b)) ∧
      State.Replied t .cell tag .ok (byteOf kinds.length ::
        (kinds.flatMap fun k => [byteOf k.val, byteOf (s.events.get k).level.val, byteOf (s.events.get k).count]) ++
        (List.finRange 9).map (fun k => byteOf (s.events.get k).level.val) ++
        [if ∃ k : Fin 9, (s.events.get k).pending = true ∧ (s.events.get k).level ≠ 3 then 1 else 0]) [] s s'

/-- An Acknowledge Events clears exactly the kinds it names, or names the first code above 8 (R177); a Set Levels gives each
named kind its level, or names the first pair that is wrong or repeats a kind (R178). Both answer ATTN. -/
def Obligations.AcknowledgeAndSetLevelsAreWhole : Prop :=
  ∀ (t : Nat) (tag : Byte) (kinds : List Byte) (pairs : List (Byte × Byte)) (s : State), s.Takes .cell →
    kinds.length ≤ 250 → pairs.length ≤ 125 →
    let wrong := fun n : Nat => ∃ e, pairs[n]? = some e ∧ (8 < e.1.toNat ∨ 3 < e.2.toNat ∨
      ∃ m e', m < n ∧ pairs[m]? = some e' ∧ e'.1 = e.1)
    (∃ s' : State, exec (.acknowledgeEvents t .cell tag kinds) s = .next s' ∧
      (∀ n b, kinds[n]? = some b → 8 < b.toNat → (∀ m b', m < n → kinds[m]? = some b' → b'.toNat ≤ 8) →
        State.Replied t .cell tag .range [byteOf n] [] s s') ∧
      ((∀ b ∈ kinds, b.toNat ≤ 8) → State.Replied t .cell tag .ok [if s'.attn then 1 else 0] [.events] s s' ∧
        ∀ k : Fin 9, s'.events.get k = if (∃ b ∈ kinds, b.toNat = k.val)
          then { s.events.get k with pending := false, count := 0 } else s.events.get k)) ∧
    (∃ s' : State, exec (.setLevels t .cell tag pairs) s = .next s' ∧
      (∀ n, wrong n → (∀ m < n, ¬ wrong m) → State.Replied t .cell tag .range [byteOf n] [] s s') ∧
      ((∀ n, ¬ wrong n) → State.Replied t .cell tag .ok [if s'.attn then 1 else 0] [.events] s s' ∧
        ∀ k : Fin 9, (s'.events.get k).pending = (s.events.get k).pending ∧
          (s'.events.get k).count = (s.events.get k).count ∧
          (∀ e ∈ pairs, e.1.toNat = k.val → (s'.events.get k).level.val = e.2.toNat) ∧
          ((∀ e ∈ pairs, e.1.toNat ≠ k.val) → s'.events.get k = s.events.get k)))

/-! ### Configuration Record -/

/-- A Write Config is refused with the first field out of range or, outside HOLD, with STATE; otherwise it is the request in
progress for 5 ms, at the end of which the stored record is whole and the answer is made (R182, R164). No running value
changes. With no write under way its completion changes nothing (log 5). -/
def Obligations.WriteConfigChangesTheStoredRecordAlone : Prop :=
  ∀ (t : Nat) (tag : Byte) (r : ConfigRecord) (s : State),
    let tests : List Bool :=
      [1 ≤ r.headCount.toNat && r.headCount.toNat ≤ 8,
       5000 ≤ r.rating.toNat && r.rating.toNat ≤ 30000 && r.rating.toNat % 500 = 0,
       5 ≤ r.slotLength.toNat && r.slotLength.toNat ≤ 50,
       r.derate.toNat = 25 || r.derate.toNat = 50 || r.derate.toNat = 75, r.supplyLevel.toNat ≤ 2,
       r.clampFilter.toNat = 4 || r.clampFilter.toNat = 16, 1 ≤ r.flowMinimum.toNat,
       3 ≤ r.sampleLoss.toNat && r.sampleLoss.toNat ≤ 15, r.linkSpeed.toNat ≤ 1,
       decide (∀ n : Fin 9, (r.levels.get n).toNat ≤ 3)]
    (s.Takes .cell → ∃ s' : State, exec (.writeConfig t .cell tag r) s = .next s' ∧
      (∀ i, tests[i]? = some false → (∀ m < i, tests[m]? = some true) →
        State.Replied t .cell tag .range [byteOf i] [] s s') ∧
      ((∀ ok ∈ tests, ok = true) →
        if s.cell.state = .hold then
          s'.config = { s.config with write := some { record := r, since := max s.now t } } ∧
          s'.cellLink = { s.cellLink with receiver := .waiting, inProgress := some { request := .writeConfig, tag := tag } } ∧
          s'.inspLink = s.inspLink ∧ s'.txSince = s.txSince ∧ s.Took t [] s' ∧
          s.KeepsAllBut [.now, .driven, .links, .config] s'
        else State.Replied t .cell tag .state [] [] s s')) ∧
    (∀ w saved, s.phase ≠ .held → s.config.write = some w →
      s.cellLink.inProgress = some { request := .writeConfig, tag := saved } →
      ∃ s' : State, exec (.writeConfigComplete t) s = .next s' ∧ s.Took (max t (w.since + 5000)) [] s' ∧
        s'.config = { s.config with stored := w.record, checkAgrees := true, status := .written, write := none } ∧
        s'.cellLink = { s.cellLink with
          inProgress := none, answers := s.cellLink.answers ++ [answerFrame .ok saved []] } ∧
        s'.inspLink = s.inspLink ∧ s'.txSince = s.txSince ∧ s.KeepsAllBut [.now, .driven, .links, .config] s') ∧
    (s.phase ≠ .held → s.config.write = none →
      ∃ s' : State, exec (.writeConfigComplete t) s = .next s' ∧ s.Idles t s')

/-! ### What every step keeps -/

/-- The slots rise below 512, no two records hold one key, and the mark agrees with the live count (R1, R2). -/
def Obligations.EveryStepKeepsTheTable : Prop :=
  ∀ s s' : State, s.TableOk → step s = .next s' → s'.TableOk

/-- Bindings stay mutual, each head's state paired with its record's (R5, section 3.1).
No joint is heating while the cell is HOLD or TRIPPED (R70). -/
def Obligations.EveryStepKeepsBindingsAndHeating : Prop :=
  (∀ s s' : State, s.TableOk → s.BindingsOk → step s = .next s' → s'.BindingsOk) ∧
  (∀ s s' : State, s.TableOk → s.BindingsOk → s.HeatingOnlyRunning → step s = .next s' → s'.HeatingOnlyRunning)

/-- A verdict stands in DONE and REJECTED alone, a cause in REJECTED exactly (R6), and counters and temperatures keep their
ranges (R23, R51, R87, R125). -/
def Obligations.EveryStepKeepsTheRecords : Prop :=
  ∀ s s' : State, s.TableOk → s.BindingsOk → s.HeadRangesOk → s.RecordsOk → step s = .next s' → s'.RecordsOk

/-- A record keeps its profile and its verdict as long as it lives, and its energy, its reheat count and its peak temperature
never fall (R6, R20, R23, R87, R125). -/
def Obligations.ARecordNeverLosesItsHistory : Prop :=
  ∀ (s s' : State) (k : Key) (j j' : Joint), s.TableOk → s.RecordsOk → step s = .next s' → s.joint k = some j →
    s'.joint k = some j' →
    j'.profile = j.profile ∧ j.energy ≤ j'.energy ∧ j.reheats ≤ j'.reheats ∧
    (j.verdict.isSome = true → j'.verdict = j.verdict) ∧ ∀ x ∈ j.peakTemp, ∃ y ∈ j'.peakTemp, x ≤ y

/-- The cell record and GEN: the causes stand in TRIPPED exactly, the flag on the LOW side exactly, RUN and DERATED by the
flag, an asserted line or a low link holds the trip, GEN is high in RUN and DERATED exactly (R142, R149, R156).
The scheduler's lists, pointers, position and pending switch stay as R94, R95, R97, R111 and R115 say. -/
def Obligations.EveryStepKeepsTheCellAndScheduler : Prop :=
  (∀ s s' : State, s.CellOk → step s = .next s' → s'.CellOk) ∧
  (∀ s s' : State, s.SchedOk → step s = .next s' → s'.SchedOk)

/-- The output is safe: an uncut grant is that of a heating head, which alone is connected; the code is 0 without an open
account, and the account is that head's and its joint's (R74, R75, R105, R106). -/
def Obligations.EveryStepKeepsTheOutputSafe : Prop :=
  ∀ s s' : State, s.TableOk → s.BindingsOk → s.HeatingOnlyRunning → s.CellOk → s.SchedOk → s.PowerOk → s.OutputOk →
    step s = .next s' → s'.OutputOk

/-- Integrals and demands stay within the rating, codes within 4095 (R83 to R85); a valid profile passes R32 (R33, R44).
A heating joint is heated under a valid profile, and its soak, its feed and its feeder's steps stay in bounds (R33, R56,
R58, R59, R134). -/
def Obligations.EveryStepKeepsPowerProfilesAndFeed : Prop :=
  (∀ s s' : State, s.PowerOk → s.ProfilesOk → step s = .next s' → s'.PowerOk ∧ s'.ProfilesOk) ∧
  (∀ s s' : State, s.TableOk → s.BindingsOk → s.HeatingOnlyRunning → s.ProfilesOk → s.FeedOk → step s = .next s' → s'.FeedOk)

/-- Head records stay in the ranges of R118, event entries in those of R173; the answer queues hold at most two with a
place kept for a request in progress, and what is being sent is the front answer (R164 to R166, R168).
Until the quiet period ends the part does nothing but watch the supply and count time (R157, R158, R181); that the same holds
while it is held in reset is the model's choice (log 9). -/
def Obligations.EveryStepKeepsRangesAndTheQuietPeriod : Prop :=
  (∀ s s' : State, s.HeadRangesOk → s.EventsOk → s.LinksOk → step s = .next s' →
     s'.HeadRangesOk ∧ s'.EventsOk ∧ s'.LinksOk) ∧
  (∀ s s' : State, s.QuietOk → step s = .next s' → s'.QuietOk)

/-- The Inspection Link reaches nothing but the Joint Table, its own receiver and queue, and the events: no head, no output,
no profile, no setting, no answer of the other link; and of a record it can change the verdict alone (R169, R20, R25). -/
def Obligations.InspectionLinkReachesVerdictsAlone : Prop :=
  ∀ (c : Instr) (s s' : State), comesOverInspection c = true → s.TableOk → exec c s = .next s' →
    s.KeepsAllBut [.now, .driven, .table, .links, .events] s' ∧ s'.cellLink = s.cellLink ∧
    s'.inspLink.inProgress = s.inspLink.inProgress ∧
    ∀ x ∈ s'.table.records, ∃ y ∈ s.table.records, y.1 = x.1 ∧ x.2 = { y.2 with verdict := x.2.verdict }

/-- An event at one head leaves the seven others, and every record not bound to it, as they are (R30). -/
def Obligations.HeadEventsStayAtTheirHead : Prop :=
  ∀ (c : Instr) (h : Fin 8) (s s' : State), headOfEvent c = some h → s.TableOk → s.OutputOk → exec c s = .next s' →
    (∀ h' : Fin 8, h' ≠ h → s'.head h' = s.head h') ∧
    (∀ x ∈ s.table.records, (s.head h).bound ≠ some x.2.key → x ∈ s'.table.records) ∧
    s.KeepsAllBut [.now, .driven, .table, .heads, .power, .sched, .gen, .events] s'
end

