-- ==== Sys2Proof/Laws/State.lean ====
section
/-! SUPPORT. One lemma for each field of the state after each plain update of it: those of `Machine/Ops.lean` and the
small ones of the blocks. No proof needs to unfold a record update. -/

namespace Sys2Proof.Machine

/-! ### `State.arrive` -/

@[simp] theorem State.arrive_pending (t due : Nat) (s : State) : (s.arrive t due).pending = s.pending := rfl
@[simp] theorem State.arrive_phase (t due : Nat) (s : State) : (s.arrive t due).phase = s.phase := rfl
@[simp] theorem State.arrive_now (t due : Nat) (s : State) : (s.arrive t due).now = max s.now (max t due) := rfl
@[simp] theorem State.arrive_table (t due : Nat) (s : State) : (s.arrive t due).table = s.table := rfl
@[simp] theorem State.arrive_profiles (t due : Nat) (s : State) : (s.arrive t due).profiles = s.profiles := rfl
@[simp] theorem State.arrive_heads (t due : Nat) (s : State) : (s.arrive t due).heads = s.heads := rfl
@[simp] theorem State.arrive_power (t due : Nat) (s : State) : (s.arrive t due).power = s.power := rfl
@[simp] theorem State.arrive_sched (t due : Nat) (s : State) : (s.arrive t due).sched = s.sched := rfl
@[simp] theorem State.arrive_gen (t due : Nat) (s : State) : (s.arrive t due).gen = s.gen := rfl
@[simp] theorem State.arrive_cell (t due : Nat) (s : State) : (s.arrive t due).cell = s.cell := rfl
@[simp] theorem State.arrive_cellLink (t due : Nat) (s : State) : (s.arrive t due).cellLink = s.cellLink := rfl
@[simp] theorem State.arrive_inspLink (t due : Nat) (s : State) : (s.arrive t due).inspLink = s.inspLink := rfl
@[simp] theorem State.arrive_port (t due : Nat) (s : State) : (s.arrive t due).port = s.port := rfl
@[simp] theorem State.arrive_txSince (t due : Nat) (s : State) : (s.arrive t due).txSince = s.txSince := rfl
@[simp] theorem State.arrive_events (t due : Nat) (s : State) : (s.arrive t due).events = s.events := rfl
@[simp] theorem State.arrive_config (t due : Nat) (s : State) : (s.arrive t due).config = s.config := rfl
@[simp] theorem State.arrive_driven (t due : Nat) (s : State) : (s.arrive t due).driven = [] := rfl

/-! ### `State.setHead` -/

@[simp] theorem State.setHead_pending (h : Fin 8) (hd : Head) (s : State) : (s.setHead h hd).pending = s.pending := rfl
@[simp] theorem State.setHead_phase (h : Fin 8) (hd : Head) (s : State) : (s.setHead h hd).phase = s.phase := rfl
@[simp] theorem State.setHead_now (h : Fin 8) (hd : Head) (s : State) : (s.setHead h hd).now = s.now := rfl
@[simp] theorem State.setHead_table (h : Fin 8) (hd : Head) (s : State) : (s.setHead h hd).table = s.table := rfl
@[simp] theorem State.setHead_profiles (h : Fin 8) (hd : Head) (s : State) :
    (s.setHead h hd).profiles = s.profiles := rfl
@[simp] theorem State.setHead_heads (h : Fin 8) (hd : Head) (s : State) :
    (s.setHead h hd).heads = s.heads.set h hd := rfl
@[simp] theorem State.setHead_power (h : Fin 8) (hd : Head) (s : State) : (s.setHead h hd).power = s.power := rfl
@[simp] theorem State.setHead_sched (h : Fin 8) (hd : Head) (s : State) : (s.setHead h hd).sched = s.sched := rfl
@[simp] theorem State.setHead_gen (h : Fin 8) (hd : Head) (s : State) : (s.setHead h hd).gen = s.gen := rfl
@[simp] theorem State.setHead_cell (h : Fin 8) (hd : Head) (s : State) : (s.setHead h hd).cell = s.cell := rfl
@[simp] theorem State.setHead_cellLink (h : Fin 8) (hd : Head) (s : State) :
    (s.setHead h hd).cellLink = s.cellLink := rfl
@[simp] theorem State.setHead_inspLink (h : Fin 8) (hd : Head) (s : State) :
    (s.setHead h hd).inspLink = s.inspLink := rfl
@[simp] theorem State.setHead_port (h : Fin 8) (hd : Head) (s : State) : (s.setHead h hd).port = s.port := rfl
@[simp] theorem State.setHead_txSince (h : Fin 8) (hd : Head) (s : State) : (s.setHead h hd).txSince = s.txSince := rfl
@[simp] theorem State.setHead_events (h : Fin 8) (hd : Head) (s : State) : (s.setHead h hd).events = s.events := rfl
@[simp] theorem State.setHead_config (h : Fin 8) (hd : Head) (s : State) : (s.setHead h hd).config = s.config := rfl
@[simp] theorem State.setHead_driven (h : Fin 8) (hd : Head) (s : State) : (s.setHead h hd).driven = s.driven := rfl

/-! ### `State.modHead` -/

@[simp] theorem State.modHead_pending (h : Fin 8) (f : Head → Head) (s : State) :
    (s.modHead h f).pending = s.pending := rfl
@[simp] theorem State.modHead_phase (h : Fin 8) (f : Head → Head) (s : State) : (s.modHead h f).phase = s.phase := rfl
@[simp] theorem State.modHead_now (h : Fin 8) (f : Head → Head) (s : State) : (s.modHead h f).now = s.now := rfl
@[simp] theorem State.modHead_table (h : Fin 8) (f : Head → Head) (s : State) : (s.modHead h f).table = s.table := rfl
@[simp] theorem State.modHead_profiles (h : Fin 8) (f : Head → Head) (s : State) :
    (s.modHead h f).profiles = s.profiles := rfl
@[simp] theorem State.modHead_heads (h : Fin 8) (f : Head → Head) (s : State) :
    (s.modHead h f).heads = s.heads.set h (f (s.head h)) := rfl
@[simp] theorem State.modHead_power (h : Fin 8) (f : Head → Head) (s : State) : (s.modHead h f).power = s.power := rfl
@[simp] theorem State.modHead_sched (h : Fin 8) (f : Head → Head) (s : State) : (s.modHead h f).sched = s.sched := rfl
@[simp] theorem State.modHead_gen (h : Fin 8) (f : Head → Head) (s : State) : (s.modHead h f).gen = s.gen := rfl
@[simp] theorem State.modHead_cell (h : Fin 8) (f : Head → Head) (s : State) : (s.modHead h f).cell = s.cell := rfl
@[simp] theorem State.modHead_cellLink (h : Fin 8) (f : Head → Head) (s : State) :
    (s.modHead h f).cellLink = s.cellLink := rfl
@[simp] theorem State.modHead_inspLink (h : Fin 8) (f : Head → Head) (s : State) :
    (s.modHead h f).inspLink = s.inspLink := rfl
@[simp] theorem State.modHead_port (h : Fin 8) (f : Head → Head) (s : State) : (s.modHead h f).port = s.port := rfl
@[simp] theorem State.modHead_txSince (h : Fin 8) (f : Head → Head) (s : State) : (s.modHead h f).txSince = s.txSince := rfl
@[simp] theorem State.modHead_events (h : Fin 8) (f : Head → Head) (s : State) :
    (s.modHead h f).events = s.events := rfl
@[simp] theorem State.modHead_config (h : Fin 8) (f : Head → Head) (s : State) :
    (s.modHead h f).config = s.config := rfl
@[simp] theorem State.modHead_driven (h : Fin 8) (f : Head → Head) (s : State) :
    (s.modHead h f).driven = s.driven := rfl

/-! ### `State.modJoint` -/

@[simp] theorem State.modJoint_pending (k : Key) (f : Joint → Joint) (s : State) :
    (s.modJoint k f).pending = s.pending := rfl
@[simp] theorem State.modJoint_phase (k : Key) (f : Joint → Joint) (s : State) : (s.modJoint k f).phase = s.phase := rfl
@[simp] theorem State.modJoint_now (k : Key) (f : Joint → Joint) (s : State) : (s.modJoint k f).now = s.now := rfl
@[simp] theorem State.modJoint_table (k : Key) (f : Joint → Joint) (s : State) :
    (s.modJoint k f).table = { s.table with records := s.table.records.map fun x => if x.2.key = k then (x.1, f x.2) else x } := rfl
@[simp] theorem State.modJoint_profiles (k : Key) (f : Joint → Joint) (s : State) :
    (s.modJoint k f).profiles = s.profiles := rfl
@[simp] theorem State.modJoint_heads (k : Key) (f : Joint → Joint) (s : State) : (s.modJoint k f).heads = s.heads := rfl
@[simp] theorem State.modJoint_power (k : Key) (f : Joint → Joint) (s : State) : (s.modJoint k f).power = s.power := rfl
@[simp] theorem State.modJoint_sched (k : Key) (f : Joint → Joint) (s : State) : (s.modJoint k f).sched = s.sched := rfl
@[simp] theorem State.modJoint_gen (k : Key) (f : Joint → Joint) (s : State) : (s.modJoint k f).gen = s.gen := rfl
@[simp] theorem State.modJoint_cell (k : Key) (f : Joint → Joint) (s : State) : (s.modJoint k f).cell = s.cell := rfl
@[simp] theorem State.modJoint_cellLink (k : Key) (f : Joint → Joint) (s : State) :
    (s.modJoint k f).cellLink = s.cellLink := rfl
@[simp] theorem State.modJoint_inspLink (k : Key) (f : Joint → Joint) (s : State) :
    (s.modJoint k f).inspLink = s.inspLink := rfl
@[simp] theorem State.modJoint_port (k : Key) (f : Joint → Joint) (s : State) : (s.modJoint k f).port = s.port := rfl
@[simp] theorem State.modJoint_txSince (k : Key) (f : Joint → Joint) (s : State) : (s.modJoint k f).txSince = s.txSince := rfl
@[simp] theorem State.modJoint_events (k : Key) (f : Joint → Joint) (s : State) :
    (s.modJoint k f).events = s.events := rfl
@[simp] theorem State.modJoint_config (k : Key) (f : Joint → Joint) (s : State) :
    (s.modJoint k f).config = s.config := rfl
@[simp] theorem State.modJoint_driven (k : Key) (f : Joint → Joint) (s : State) :
    (s.modJoint k f).driven = s.driven := rfl

/-! ### `State.raise` -/

@[simp] theorem State.raise_pending (k : EventKind) (s : State) : (s.raise k).pending = s.pending := rfl
@[simp] theorem State.raise_phase (k : EventKind) (s : State) : (s.raise k).phase = s.phase := rfl
@[simp] theorem State.raise_now (k : EventKind) (s : State) : (s.raise k).now = s.now := rfl
@[simp] theorem State.raise_table (k : EventKind) (s : State) : (s.raise k).table = s.table := rfl
@[simp] theorem State.raise_profiles (k : EventKind) (s : State) : (s.raise k).profiles = s.profiles := rfl
@[simp] theorem State.raise_heads (k : EventKind) (s : State) : (s.raise k).heads = s.heads := rfl
@[simp] theorem State.raise_power (k : EventKind) (s : State) : (s.raise k).power = s.power := rfl
@[simp] theorem State.raise_sched (k : EventKind) (s : State) : (s.raise k).sched = s.sched := rfl
@[simp] theorem State.raise_gen (k : EventKind) (s : State) : (s.raise k).gen = s.gen := rfl
@[simp] theorem State.raise_cell (k : EventKind) (s : State) : (s.raise k).cell = s.cell := rfl
@[simp] theorem State.raise_cellLink (k : EventKind) (s : State) : (s.raise k).cellLink = s.cellLink := rfl
@[simp] theorem State.raise_inspLink (k : EventKind) (s : State) : (s.raise k).inspLink = s.inspLink := rfl
@[simp] theorem State.raise_port (k : EventKind) (s : State) : (s.raise k).port = s.port := rfl
@[simp] theorem State.raise_txSince (k : EventKind) (s : State) : (s.raise k).txSince = s.txSince := rfl
@[simp] theorem State.raise_events (k : EventKind) (s : State) :
    (s.raise k).events = s.events.set k.code (s.events.get k.code).raised := rfl
@[simp] theorem State.raise_config (k : EventKind) (s : State) : (s.raise k).config = s.config := rfl
@[simp] theorem State.raise_driven (k : EventKind) (s : State) : (s.raise k).driven = s.driven := rfl

/-! ### `State.drive` -/

@[simp] theorem State.drive_pending (a : LineAction) (s : State) : (s.drive a).pending = s.pending := rfl
@[simp] theorem State.drive_phase (a : LineAction) (s : State) : (s.drive a).phase = s.phase := rfl
@[simp] theorem State.drive_now (a : LineAction) (s : State) : (s.drive a).now = s.now := rfl
@[simp] theorem State.drive_table (a : LineAction) (s : State) : (s.drive a).table = s.table := rfl
@[simp] theorem State.drive_profiles (a : LineAction) (s : State) : (s.drive a).profiles = s.profiles := rfl
@[simp] theorem State.drive_heads (a : LineAction) (s : State) : (s.drive a).heads = s.heads := rfl
@[simp] theorem State.drive_power (a : LineAction) (s : State) : (s.drive a).power = s.power := rfl
@[simp] theorem State.drive_sched (a : LineAction) (s : State) : (s.drive a).sched = s.sched := rfl
@[simp] theorem State.drive_gen (a : LineAction) (s : State) : (s.drive a).gen = s.gen := rfl
@[simp] theorem State.drive_cell (a : LineAction) (s : State) : (s.drive a).cell = s.cell := rfl
@[simp] theorem State.drive_cellLink (a : LineAction) (s : State) : (s.drive a).cellLink = s.cellLink := rfl
@[simp] theorem State.drive_inspLink (a : LineAction) (s : State) : (s.drive a).inspLink = s.inspLink := rfl
@[simp] theorem State.drive_port (a : LineAction) (s : State) : (s.drive a).port = s.port := rfl
@[simp] theorem State.drive_txSince (a : LineAction) (s : State) : (s.drive a).txSince = s.txSince := rfl
@[simp] theorem State.drive_events (a : LineAction) (s : State) : (s.drive a).events = s.events := rfl
@[simp] theorem State.drive_config (a : LineAction) (s : State) : (s.drive a).config = s.config := rfl
@[simp] theorem State.drive_driven (a : LineAction) (s : State) : (s.drive a).driven = s.driven ++ [a] := rfl

/-! ### `State.setTank` -/

@[simp] theorem State.setTank_pending (m : TankMeasure) (s : State) : (s.setTank m).pending = s.pending := rfl
@[simp] theorem State.setTank_phase (m : TankMeasure) (s : State) : (s.setTank m).phase = s.phase := rfl
@[simp] theorem State.setTank_now (m : TankMeasure) (s : State) : (s.setTank m).now = s.now := rfl
@[simp] theorem State.setTank_table (m : TankMeasure) (s : State) : (s.setTank m).table = s.table := rfl
@[simp] theorem State.setTank_profiles (m : TankMeasure) (s : State) : (s.setTank m).profiles = s.profiles := rfl
@[simp] theorem State.setTank_heads (m : TankMeasure) (s : State) : (s.setTank m).heads = s.heads := rfl
@[simp] theorem State.setTank_power (m : TankMeasure) (s : State) : (s.setTank m).power = s.power := rfl
@[simp] theorem State.setTank_sched (m : TankMeasure) (s : State) : (s.setTank m).sched = s.sched := rfl
@[simp] theorem State.setTank_gen (m : TankMeasure) (s : State) : (s.setTank m).gen = { s.gen with tank := m } := rfl
@[simp] theorem State.setTank_cell (m : TankMeasure) (s : State) : (s.setTank m).cell = s.cell := rfl
@[simp] theorem State.setTank_cellLink (m : TankMeasure) (s : State) : (s.setTank m).cellLink = s.cellLink := rfl
@[simp] theorem State.setTank_inspLink (m : TankMeasure) (s : State) : (s.setTank m).inspLink = s.inspLink := rfl
@[simp] theorem State.setTank_port (m : TankMeasure) (s : State) : (s.setTank m).port = s.port := rfl
@[simp] theorem State.setTank_txSince (m : TankMeasure) (s : State) : (s.setTank m).txSince = s.txSince := rfl
@[simp] theorem State.setTank_events (m : TankMeasure) (s : State) : (s.setTank m).events = s.events := rfl
@[simp] theorem State.setTank_config (m : TankMeasure) (s : State) : (s.setTank m).config = s.config := rfl
@[simp] theorem State.setTank_driven (m : TankMeasure) (s : State) : (s.setTank m).driven = s.driven := rfl

/-! ### `State.setCode` -/

@[simp] theorem State.setCode_pending (code : BitVec 12) (s : State) :
    (s.setCode code).pending = s.pending := by unfold State.setCode; split <;> rfl
@[simp] theorem State.setCode_phase (code : BitVec 12) (s : State) :
    (s.setCode code).phase = s.phase := by unfold State.setCode; split <;> rfl
@[simp] theorem State.setCode_now (code : BitVec 12) (s : State) :
    (s.setCode code).now = s.now := by unfold State.setCode; split <;> rfl
@[simp] theorem State.setCode_table (code : BitVec 12) (s : State) :
    (s.setCode code).table = s.table := by unfold State.setCode; split <;> rfl
@[simp] theorem State.setCode_profiles (code : BitVec 12) (s : State) :
    (s.setCode code).profiles = s.profiles := by unfold State.setCode; split <;> rfl
@[simp] theorem State.setCode_heads (code : BitVec 12) (s : State) :
    (s.setCode code).heads = s.heads := by unfold State.setCode; split <;> rfl
@[simp] theorem State.setCode_power (code : BitVec 12) (s : State) :
    (s.setCode code).power = s.power := by unfold State.setCode; split <;> rfl
@[simp] theorem State.setCode_sched (code : BitVec 12) (s : State) :
    (s.setCode code).sched = s.sched := by unfold State.setCode; split <;> rfl
@[simp] theorem State.setCode_gen (code : BitVec 12) (s : State) :
    (s.setCode code).gen = { s.gen with code := code } := by
  unfold State.setCode
  split
  · next h => cases h; rfl
  · rfl
@[simp] theorem State.setCode_cell (code : BitVec 12) (s : State) :
    (s.setCode code).cell = s.cell := by unfold State.setCode; split <;> rfl
@[simp] theorem State.setCode_cellLink (code : BitVec 12) (s : State) :
    (s.setCode code).cellLink = s.cellLink := by unfold State.setCode; split <;> rfl
@[simp] theorem State.setCode_inspLink (code : BitVec 12) (s : State) :
    (s.setCode code).inspLink = s.inspLink := by unfold State.setCode; split <;> rfl
@[simp] theorem State.setCode_port (code : BitVec 12) (s : State) :
    (s.setCode code).port = s.port := by unfold State.setCode; split <;> rfl
@[simp] theorem State.setCode_txSince (code : BitVec 12) (s : State) :
    (s.setCode code).txSince = s.txSince := by unfold State.setCode; split <;> rfl
@[simp] theorem State.setCode_events (code : BitVec 12) (s : State) :
    (s.setCode code).events = s.events := by unfold State.setCode; split <;> rfl
@[simp] theorem State.setCode_config (code : BitVec 12) (s : State) :
    (s.setCode code).config = s.config := by unfold State.setCode; split <;> rfl

/-! ### `State.connect` -/

@[simp] theorem State.connect_pending (head : Option (Fin 8)) (s : State) :
    (s.connect head).pending = s.pending := by unfold State.connect; split <;> rfl
@[simp] theorem State.connect_phase (head : Option (Fin 8)) (s : State) :
    (s.connect head).phase = s.phase := by unfold State.connect; split <;> rfl
@[simp] theorem State.connect_now (head : Option (Fin 8)) (s : State) :
    (s.connect head).now = s.now := by unfold State.connect; split <;> rfl
@[simp] theorem State.connect_table (head : Option (Fin 8)) (s : State) :
    (s.connect head).table = s.table := by unfold State.connect; split <;> rfl
@[simp] theorem State.connect_profiles (head : Option (Fin 8)) (s : State) :
    (s.connect head).profiles = s.profiles := by unfold State.connect; split <;> rfl
@[simp] theorem State.connect_heads (head : Option (Fin 8)) (s : State) :
    (s.connect head).heads = s.heads := by unfold State.connect; split <;> rfl
@[simp] theorem State.connect_power (head : Option (Fin 8)) (s : State) :
    (s.connect head).power = s.power := by unfold State.connect; split <;> rfl
@[simp] theorem State.connect_sched (head : Option (Fin 8)) (s : State) :
    (s.connect head).sched = s.sched := by unfold State.connect; split <;> rfl
@[simp] theorem State.connect_gen (head : Option (Fin 8)) (s : State) :
    (s.connect head).gen = { s.gen with connected := head } := by
  unfold State.connect
  split
  · next h => cases h; rfl
  · rfl
@[simp] theorem State.connect_cell (head : Option (Fin 8)) (s : State) :
    (s.connect head).cell = s.cell := by unfold State.connect; split <;> rfl
@[simp] theorem State.connect_cellLink (head : Option (Fin 8)) (s : State) :
    (s.connect head).cellLink = s.cellLink := by unfold State.connect; split <;> rfl
@[simp] theorem State.connect_inspLink (head : Option (Fin 8)) (s : State) :
    (s.connect head).inspLink = s.inspLink := by unfold State.connect; split <;> rfl
@[simp] theorem State.connect_port (head : Option (Fin 8)) (s : State) :
    (s.connect head).port = s.port := by unfold State.connect; split <;> rfl
@[simp] theorem State.connect_txSince (head : Option (Fin 8)) (s : State) :
    (s.connect head).txSince = s.txSince := by unfold State.connect; split <;> rfl
@[simp] theorem State.connect_events (head : Option (Fin 8)) (s : State) :
    (s.connect head).events = s.events := by unfold State.connect; split <;> rfl
@[simp] theorem State.connect_config (head : Option (Fin 8)) (s : State) :
    (s.connect head).config = s.config := by unfold State.connect; split <;> rfl

/-! ### `State.setEnable` -/

@[simp] theorem State.setEnable_pending (high : Bool) (s : State) :
    (s.setEnable high).pending = s.pending := by unfold State.setEnable; split <;> rfl
@[simp] theorem State.setEnable_phase (high : Bool) (s : State) :
    (s.setEnable high).phase = s.phase := by unfold State.setEnable; split <;> rfl
@[simp] theorem State.setEnable_now (high : Bool) (s : State) :
    (s.setEnable high).now = s.now := by unfold State.setEnable; split <;> rfl
@[simp] theorem State.setEnable_table (high : Bool) (s : State) :
    (s.setEnable high).table = s.table := by unfold State.setEnable; split <;> rfl
@[simp] theorem State.setEnable_profiles (high : Bool) (s : State) :
    (s.setEnable high).profiles = s.profiles := by unfold State.setEnable; split <;> rfl
@[simp] theorem State.setEnable_heads (high : Bool) (s : State) :
    (s.setEnable high).heads = s.heads := by unfold State.setEnable; split <;> rfl
@[simp] theorem State.setEnable_power (high : Bool) (s : State) :
    (s.setEnable high).power = s.power := by unfold State.setEnable; split <;> rfl
@[simp] theorem State.setEnable_sched (high : Bool) (s : State) :
    (s.setEnable high).sched = s.sched := by unfold State.setEnable; split <;> rfl
@[simp] theorem State.setEnable_gen (high : Bool) (s : State) :
    (s.setEnable high).gen = { s.gen with enable := high } := by
  unfold State.setEnable
  split
  · next h => cases h; rfl
  · rfl
@[simp] theorem State.setEnable_cell (high : Bool) (s : State) :
    (s.setEnable high).cell = s.cell := by unfold State.setEnable; split <;> rfl
@[simp] theorem State.setEnable_cellLink (high : Bool) (s : State) :
    (s.setEnable high).cellLink = s.cellLink := by unfold State.setEnable; split <;> rfl
@[simp] theorem State.setEnable_inspLink (high : Bool) (s : State) :
    (s.setEnable high).inspLink = s.inspLink := by unfold State.setEnable; split <;> rfl
@[simp] theorem State.setEnable_port (high : Bool) (s : State) :
    (s.setEnable high).port = s.port := by unfold State.setEnable; split <;> rfl
@[simp] theorem State.setEnable_txSince (high : Bool) (s : State) :
    (s.setEnable high).txSince = s.txSince := by unfold State.setEnable; split <;> rfl
@[simp] theorem State.setEnable_events (high : Bool) (s : State) :
    (s.setEnable high).events = s.events := by unfold State.setEnable; split <;> rfl
@[simp] theorem State.setEnable_config (high : Bool) (s : State) :
    (s.setEnable high).config = s.config := by unfold State.setEnable; split <;> rfl

/-! ### `State.setLink` -/

@[simp] theorem State.setLink_pending (l : Link) (x : LinkState) (s : State) :
    (s.setLink l x).pending = s.pending := by cases l <;> rfl
@[simp] theorem State.setLink_phase (l : Link) (x : LinkState) (s : State) :
    (s.setLink l x).phase = s.phase := by cases l <;> rfl
@[simp] theorem State.setLink_now (l : Link) (x : LinkState) (s : State) :
    (s.setLink l x).now = s.now := by cases l <;> rfl
@[simp] theorem State.setLink_table (l : Link) (x : LinkState) (s : State) :
    (s.setLink l x).table = s.table := by cases l <;> rfl
@[simp] theorem State.setLink_profiles (l : Link) (x : LinkState) (s : State) :
    (s.setLink l x).profiles = s.profiles := by cases l <;> rfl
@[simp] theorem State.setLink_heads (l : Link) (x : LinkState) (s : State) :
    (s.setLink l x).heads = s.heads := by cases l <;> rfl
@[simp] theorem State.setLink_power (l : Link) (x : LinkState) (s : State) :
    (s.setLink l x).power = s.power := by cases l <;> rfl
@[simp] theorem State.setLink_sched (l : Link) (x : LinkState) (s : State) :
    (s.setLink l x).sched = s.sched := by cases l <;> rfl
@[simp] theorem State.setLink_gen (l : Link) (x : LinkState) (s : State) :
    (s.setLink l x).gen = s.gen := by cases l <;> rfl
@[simp] theorem State.setLink_cell (l : Link) (x : LinkState) (s : State) :
    (s.setLink l x).cell = s.cell := by cases l <;> rfl
@[simp] theorem State.setLink_port (l : Link) (x : LinkState) (s : State) :
    (s.setLink l x).port = s.port := by cases l <;> rfl
@[simp] theorem State.setLink_txSince (l : Link) (x : LinkState) (s : State) :
    (s.setLink l x).txSince = s.txSince := by cases l <;> rfl
@[simp] theorem State.setLink_events (l : Link) (x : LinkState) (s : State) :
    (s.setLink l x).events = s.events := by cases l <;> rfl
@[simp] theorem State.setLink_config (l : Link) (x : LinkState) (s : State) :
    (s.setLink l x).config = s.config := by cases l <;> rfl
@[simp] theorem State.setLink_driven (l : Link) (x : LinkState) (s : State) :
    (s.setLink l x).driven = s.driven := by cases l <;> rfl

/-! ### `State.setReceiver` -/

@[simp] theorem State.setReceiver_pending (l : Link) (r : Receiver) (s : State) :
    (s.setReceiver l r).pending = s.pending := by cases l <;> rfl
@[simp] theorem State.setReceiver_phase (l : Link) (r : Receiver) (s : State) :
    (s.setReceiver l r).phase = s.phase := by cases l <;> rfl
@[simp] theorem State.setReceiver_now (l : Link) (r : Receiver) (s : State) :
    (s.setReceiver l r).now = s.now := by cases l <;> rfl
@[simp] theorem State.setReceiver_table (l : Link) (r : Receiver) (s : State) :
    (s.setReceiver l r).table = s.table := by cases l <;> rfl
@[simp] theorem State.setReceiver_profiles (l : Link) (r : Receiver) (s : State) :
    (s.setReceiver l r).profiles = s.profiles := by cases l <;> rfl
@[simp] theorem State.setReceiver_heads (l : Link) (r : Receiver) (s : State) :
    (s.setReceiver l r).heads = s.heads := by cases l <;> rfl
@[simp] theorem State.setReceiver_power (l : Link) (r : Receiver) (s : State) :
    (s.setReceiver l r).power = s.power := by cases l <;> rfl
@[simp] theorem State.setReceiver_sched (l : Link) (r : Receiver) (s : State) :
    (s.setReceiver l r).sched = s.sched := by cases l <;> rfl
@[simp] theorem State.setReceiver_gen (l : Link) (r : Receiver) (s : State) :
    (s.setReceiver l r).gen = s.gen := by cases l <;> rfl
@[simp] theorem State.setReceiver_cell (l : Link) (r : Receiver) (s : State) :
    (s.setReceiver l r).cell = s.cell := by cases l <;> rfl
@[simp] theorem State.setReceiver_port (l : Link) (r : Receiver) (s : State) :
    (s.setReceiver l r).port = s.port := by cases l <;> rfl
@[simp] theorem State.setReceiver_txSince (l : Link) (r : Receiver) (s : State) :
    (s.setReceiver l r).txSince = s.txSince := by cases l <;> rfl
@[simp] theorem State.setReceiver_events (l : Link) (r : Receiver) (s : State) :
    (s.setReceiver l r).events = s.events := by cases l <;> rfl
@[simp] theorem State.setReceiver_config (l : Link) (r : Receiver) (s : State) :
    (s.setReceiver l r).config = s.config := by cases l <;> rfl
@[simp] theorem State.setReceiver_driven (l : Link) (r : Receiver) (s : State) :
    (s.setReceiver l r).driven = s.driven := by cases l <;> rfl

/-! ### `State.setInProgress` -/

@[simp] theorem State.setInProgress_pending (l : Link) (p : Option InProgress) (s : State) :
    (s.setInProgress l p).pending = s.pending := by cases l <;> rfl
@[simp] theorem State.setInProgress_phase (l : Link) (p : Option InProgress) (s : State) :
    (s.setInProgress l p).phase = s.phase := by cases l <;> rfl
@[simp] theorem State.setInProgress_now (l : Link) (p : Option InProgress) (s : State) :
    (s.setInProgress l p).now = s.now := by cases l <;> rfl
@[simp] theorem State.setInProgress_table (l : Link) (p : Option InProgress) (s : State) :
    (s.setInProgress l p).table = s.table := by cases l <;> rfl
@[simp] theorem State.setInProgress_profiles (l : Link) (p : Option InProgress) (s : State) :
    (s.setInProgress l p).profiles = s.profiles := by cases l <;> rfl
@[simp] theorem State.setInProgress_heads (l : Link) (p : Option InProgress) (s : State) :
    (s.setInProgress l p).heads = s.heads := by cases l <;> rfl
@[simp] theorem State.setInProgress_power (l : Link) (p : Option InProgress) (s : State) :
    (s.setInProgress l p).power = s.power := by cases l <;> rfl
@[simp] theorem State.setInProgress_sched (l : Link) (p : Option InProgress) (s : State) :
    (s.setInProgress l p).sched = s.sched := by cases l <;> rfl
@[simp] theorem State.setInProgress_gen (l : Link) (p : Option InProgress) (s : State) :
    (s.setInProgress l p).gen = s.gen := by cases l <;> rfl
@[simp] theorem State.setInProgress_cell (l : Link) (p : Option InProgress) (s : State) :
    (s.setInProgress l p).cell = s.cell := by cases l <;> rfl
@[simp] theorem State.setInProgress_port (l : Link) (p : Option InProgress) (s : State) :
    (s.setInProgress l p).port = s.port := by cases l <;> rfl
@[simp] theorem State.setInProgress_txSince (l : Link) (p : Option InProgress) (s : State) :
    (s.setInProgress l p).txSince = s.txSince := by cases l <;> rfl
@[simp] theorem State.setInProgress_events (l : Link) (p : Option InProgress) (s : State) :
    (s.setInProgress l p).events = s.events := by cases l <;> rfl
@[simp] theorem State.setInProgress_config (l : Link) (p : Option InProgress) (s : State) :
    (s.setInProgress l p).config = s.config := by cases l <;> rfl
@[simp] theorem State.setInProgress_driven (l : Link) (p : Option InProgress) (s : State) :
    (s.setInProgress l p).driven = s.driven := by cases l <;> rfl

/-! ### `State.queueAnswer` -/

@[simp] theorem State.queueAnswer_pending (l : Link) (frame : List Byte) (s : State) :
    (s.queueAnswer l frame).pending = s.pending := by cases l <;> rfl
@[simp] theorem State.queueAnswer_phase (l : Link) (frame : List Byte) (s : State) :
    (s.queueAnswer l frame).phase = s.phase := by cases l <;> rfl
@[simp] theorem State.queueAnswer_now (l : Link) (frame : List Byte) (s : State) :
    (s.queueAnswer l frame).now = s.now := by cases l <;> rfl
@[simp] theorem State.queueAnswer_table (l : Link) (frame : List Byte) (s : State) :
    (s.queueAnswer l frame).table = s.table := by cases l <;> rfl
@[simp] theorem State.queueAnswer_profiles (l : Link) (frame : List Byte) (s : State) :
    (s.queueAnswer l frame).profiles = s.profiles := by cases l <;> rfl
@[simp] theorem State.queueAnswer_heads (l : Link) (frame : List Byte) (s : State) :
    (s.queueAnswer l frame).heads = s.heads := by cases l <;> rfl
@[simp] theorem State.queueAnswer_power (l : Link) (frame : List Byte) (s : State) :
    (s.queueAnswer l frame).power = s.power := by cases l <;> rfl
@[simp] theorem State.queueAnswer_sched (l : Link) (frame : List Byte) (s : State) :
    (s.queueAnswer l frame).sched = s.sched := by cases l <;> rfl
@[simp] theorem State.queueAnswer_gen (l : Link) (frame : List Byte) (s : State) :
    (s.queueAnswer l frame).gen = s.gen := by cases l <;> rfl
@[simp] theorem State.queueAnswer_cell (l : Link) (frame : List Byte) (s : State) :
    (s.queueAnswer l frame).cell = s.cell := by cases l <;> rfl
@[simp] theorem State.queueAnswer_port (l : Link) (frame : List Byte) (s : State) :
    (s.queueAnswer l frame).port = s.port := by cases l <;> rfl
@[simp] theorem State.queueAnswer_txSince (l : Link) (frame : List Byte) (s : State) :
    (s.queueAnswer l frame).txSince = s.txSinceAfter l := by cases l <;> rfl
@[simp] theorem State.queueAnswer_events (l : Link) (frame : List Byte) (s : State) :
    (s.queueAnswer l frame).events = s.events := by cases l <;> rfl
@[simp] theorem State.queueAnswer_config (l : Link) (frame : List Byte) (s : State) :
    (s.queueAnswer l frame).config = s.config := by cases l <;> rfl
@[simp] theorem State.queueAnswer_driven (l : Link) (frame : List Byte) (s : State) :
    (s.queueAnswer l frame).driven = s.driven := by cases l <;> rfl

/-! ### `State.removeJoint` -/

@[simp] theorem State.removeJoint_pending (k : Key) (s : State) : (s.removeJoint k).pending = s.pending := rfl
@[simp] theorem State.removeJoint_phase (k : Key) (s : State) : (s.removeJoint k).phase = s.phase := rfl
@[simp] theorem State.removeJoint_now (k : Key) (s : State) : (s.removeJoint k).now = s.now := rfl
@[simp] theorem State.removeJoint_table (k : Key) (s : State) :
    (s.removeJoint k).table = { s.table with records := s.table.records.filter fun x => x.2.key ≠ k } := rfl
@[simp] theorem State.removeJoint_profiles (k : Key) (s : State) : (s.removeJoint k).profiles = s.profiles := rfl
@[simp] theorem State.removeJoint_heads (k : Key) (s : State) : (s.removeJoint k).heads = s.heads := rfl
@[simp] theorem State.removeJoint_power (k : Key) (s : State) : (s.removeJoint k).power = s.power := rfl
@[simp] theorem State.removeJoint_sched (k : Key) (s : State) : (s.removeJoint k).sched = s.sched := rfl
@[simp] theorem State.removeJoint_gen (k : Key) (s : State) : (s.removeJoint k).gen = s.gen := rfl
@[simp] theorem State.removeJoint_cell (k : Key) (s : State) : (s.removeJoint k).cell = s.cell := rfl
@[simp] theorem State.removeJoint_cellLink (k : Key) (s : State) : (s.removeJoint k).cellLink = s.cellLink := rfl
@[simp] theorem State.removeJoint_inspLink (k : Key) (s : State) : (s.removeJoint k).inspLink = s.inspLink := rfl
@[simp] theorem State.removeJoint_port (k : Key) (s : State) : (s.removeJoint k).port = s.port := rfl
@[simp] theorem State.removeJoint_txSince (k : Key) (s : State) : (s.removeJoint k).txSince = s.txSince := rfl
@[simp] theorem State.removeJoint_events (k : Key) (s : State) : (s.removeJoint k).events = s.events := rfl
@[simp] theorem State.removeJoint_config (k : Key) (s : State) : (s.removeJoint k).config = s.config := rfl
@[simp] theorem State.removeJoint_driven (k : Key) (s : State) : (s.removeJoint k).driven = s.driven := rfl

/-! ### `State.popAnswer` -/

@[simp] theorem State.popAnswer_pending (l : Link) (s : State) :
    (s.popAnswer l).pending = s.pending := by cases l <;> rfl
@[simp] theorem State.popAnswer_phase (l : Link) (s : State) : (s.popAnswer l).phase = s.phase := by cases l <;> rfl
@[simp] theorem State.popAnswer_now (l : Link) (s : State) : (s.popAnswer l).now = s.now := by cases l <;> rfl
@[simp] theorem State.popAnswer_table (l : Link) (s : State) : (s.popAnswer l).table = s.table := by cases l <;> rfl
@[simp] theorem State.popAnswer_profiles (l : Link) (s : State) :
    (s.popAnswer l).profiles = s.profiles := by cases l <;> rfl
@[simp] theorem State.popAnswer_heads (l : Link) (s : State) : (s.popAnswer l).heads = s.heads := by cases l <;> rfl
@[simp] theorem State.popAnswer_power (l : Link) (s : State) : (s.popAnswer l).power = s.power := by cases l <;> rfl
@[simp] theorem State.popAnswer_sched (l : Link) (s : State) : (s.popAnswer l).sched = s.sched := by cases l <;> rfl
@[simp] theorem State.popAnswer_gen (l : Link) (s : State) : (s.popAnswer l).gen = s.gen := by cases l <;> rfl
@[simp] theorem State.popAnswer_cell (l : Link) (s : State) : (s.popAnswer l).cell = s.cell := by cases l <;> rfl
@[simp] theorem State.popAnswer_port (l : Link) (s : State) : (s.popAnswer l).port = s.port := by cases l <;> rfl
@[simp] theorem State.popAnswer_txSince (l : Link) (s : State) : (s.popAnswer l).txSince = s.txSince := by cases l <;> rfl
@[simp] theorem State.popAnswer_events (l : Link) (s : State) : (s.popAnswer l).events = s.events := by cases l <;> rfl
@[simp] theorem State.popAnswer_config (l : Link) (s : State) : (s.popAnswer l).config = s.config := by cases l <;> rfl
@[simp] theorem State.popAnswer_driven (l : Link) (s : State) : (s.popAnswer l).driven = s.driven := by cases l <;> rfl

/-! ### `State.clearKind` -/

@[simp] theorem State.clearKind_pending (k : Fin 9) (s : State) : (s.clearKind k).pending = s.pending := rfl
@[simp] theorem State.clearKind_phase (k : Fin 9) (s : State) : (s.clearKind k).phase = s.phase := rfl
@[simp] theorem State.clearKind_now (k : Fin 9) (s : State) : (s.clearKind k).now = s.now := rfl
@[simp] theorem State.clearKind_table (k : Fin 9) (s : State) : (s.clearKind k).table = s.table := rfl
@[simp] theorem State.clearKind_profiles (k : Fin 9) (s : State) : (s.clearKind k).profiles = s.profiles := rfl
@[simp] theorem State.clearKind_heads (k : Fin 9) (s : State) : (s.clearKind k).heads = s.heads := rfl
@[simp] theorem State.clearKind_power (k : Fin 9) (s : State) : (s.clearKind k).power = s.power := rfl
@[simp] theorem State.clearKind_sched (k : Fin 9) (s : State) : (s.clearKind k).sched = s.sched := rfl
@[simp] theorem State.clearKind_gen (k : Fin 9) (s : State) : (s.clearKind k).gen = s.gen := rfl
@[simp] theorem State.clearKind_cell (k : Fin 9) (s : State) : (s.clearKind k).cell = s.cell := rfl
@[simp] theorem State.clearKind_cellLink (k : Fin 9) (s : State) : (s.clearKind k).cellLink = s.cellLink := rfl
@[simp] theorem State.clearKind_inspLink (k : Fin 9) (s : State) : (s.clearKind k).inspLink = s.inspLink := rfl
@[simp] theorem State.clearKind_port (k : Fin 9) (s : State) : (s.clearKind k).port = s.port := rfl
@[simp] theorem State.clearKind_txSince (k : Fin 9) (s : State) : (s.clearKind k).txSince = s.txSince := rfl
@[simp] theorem State.clearKind_events (k : Fin 9) (s : State) :
    (s.clearKind k).events = s.events.set k { s.events.get k with pending := false, count := 0 } := rfl
@[simp] theorem State.clearKind_config (k : Fin 9) (s : State) : (s.clearKind k).config = s.config := rfl
@[simp] theorem State.clearKind_driven (k : Fin 9) (s : State) : (s.clearKind k).driven = s.driven := rfl

/-! ### `State.setLevel` -/

@[simp] theorem State.setLevel_pending (k : Fin 9) (level : Fin 4) (s : State) :
    (s.setLevel k level).pending = s.pending := rfl
@[simp] theorem State.setLevel_phase (k : Fin 9) (level : Fin 4) (s : State) :
    (s.setLevel k level).phase = s.phase := rfl
@[simp] theorem State.setLevel_now (k : Fin 9) (level : Fin 4) (s : State) : (s.setLevel k level).now = s.now := rfl
@[simp] theorem State.setLevel_table (k : Fin 9) (level : Fin 4) (s : State) :
    (s.setLevel k level).table = s.table := rfl
@[simp] theorem State.setLevel_profiles (k : Fin 9) (level : Fin 4) (s : State) :
    (s.setLevel k level).profiles = s.profiles := rfl
@[simp] theorem State.setLevel_heads (k : Fin 9) (level : Fin 4) (s : State) :
    (s.setLevel k level).heads = s.heads := rfl
@[simp] theorem State.setLevel_power (k : Fin 9) (level : Fin 4) (s : State) :
    (s.setLevel k level).power = s.power := rfl
@[simp] theorem State.setLevel_sched (k : Fin 9) (level : Fin 4) (s : State) :
    (s.setLevel k level).sched = s.sched := rfl
@[simp] theorem State.setLevel_gen (k : Fin 9) (level : Fin 4) (s : State) : (s.setLevel k level).gen = s.gen := rfl
@[simp] theorem State.setLevel_cell (k : Fin 9) (level : Fin 4) (s : State) : (s.setLevel k level).cell = s.cell := rfl
@[simp] theorem State.setLevel_cellLink (k : Fin 9) (level : Fin 4) (s : State) :
    (s.setLevel k level).cellLink = s.cellLink := rfl
@[simp] theorem State.setLevel_inspLink (k : Fin 9) (level : Fin 4) (s : State) :
    (s.setLevel k level).inspLink = s.inspLink := rfl
@[simp] theorem State.setLevel_port (k : Fin 9) (level : Fin 4) (s : State) : (s.setLevel k level).port = s.port := rfl
@[simp] theorem State.setLevel_txSince (k : Fin 9) (level : Fin 4) (s : State) : (s.setLevel k level).txSince = s.txSince := rfl
@[simp] theorem State.setLevel_events (k : Fin 9) (level : Fin 4) (s : State) :
    (s.setLevel k level).events = s.events.set k { s.events.get k with level := level } := rfl
@[simp] theorem State.setLevel_config (k : Fin 9) (level : Fin 4) (s : State) :
    (s.setLevel k level).config = s.config := rfl
@[simp] theorem State.setLevel_driven (k : Fin 9) (level : Fin 4) (s : State) :
    (s.setLevel k level).driven = s.driven := rfl

end Sys2Proof.Machine
end

