-- ==== Sys2Proof/Laws/Ops.lean ====
section
/-! SUPPORT. What each shared operation of `Machine/Ops.lean` can do, said once. -/

namespace Sys2Proof.Machine

/-! ### Time and outcomes -/

/-- A command of the part's operation always answers a next state; held in reset, the same state. -/
theorem whileOutOfReset_eq (f : State → State) (s : State) :
    whileOutOfReset f s = .next (if s.phase = .held then s else f s) := rfl

@[simp] theorem whileOutOfReset_of_not_held (f : State → State) (s : State) (h : s.phase ≠ .held) :
    whileOutOfReset f s = .next (f s) := by simp [whileOutOfReset, h]

@[simp] theorem whileOutOfReset_of_held (f : State → State) (s : State) (h : s.phase = .held) :
    whileOutOfReset f s = .next s := by simp [whileOutOfReset, h]

/-- No command turns the time back by being taken. -/
theorem State.le_arrive_now (t due : Nat) (s : State) : s.now ≤ (s.arrive t due).now := Nat.le_max_left _ _

/-! ### One head -/

@[simp] theorem State.head_setHead_same (h : Fin 8) (hd : Head) (s : State) : (s.setHead h hd).head h = hd := by
  simp [State.head, State.setHead, Vector.get_eq_getElem]

theorem State.head_setHead_other {h h' : Fin 8} (hd : Head) (s : State) (hne : h' ≠ h) :
    (s.setHead h hd).head h' = s.head h' := by
  have : h.val ≠ h'.val := fun e => hne (Fin.ext e.symm)
  simp [State.head, State.setHead, Vector.get_eq_getElem, this]

@[simp] theorem State.head_modHead_same (h : Fin 8) (f : Head → Head) (s : State) :
    (s.modHead h f).head h = f (s.head h) := State.head_setHead_same h _ s

theorem State.head_modHead_other {h h' : Fin 8} (f : Head → Head) (s : State) (hne : h' ≠ h) :
    (s.modHead h f).head h' = s.head h' := State.head_setHead_other _ s hne

/-- A head is read from the head records alone. -/
theorem State.head_congr {s s' : State} (e : s'.heads = s.heads) (h : Fin 8) : s'.head h = s.head h := by
  simp [State.head, e]

@[simp] theorem State.head_modJoint (k : Key) (f : Joint → Joint) (s : State) (h : Fin 8) :
    (s.modJoint k f).head h = s.head h := rfl
@[simp] theorem State.head_raise (k : EventKind) (s : State) (h : Fin 8) : (s.raise k).head h = s.head h := rfl
@[simp] theorem State.head_arrive (t due : Nat) (s : State) (h : Fin 8) : (s.arrive t due).head h = s.head h := rfl
@[simp] theorem State.head_drive (a : LineAction) (s : State) (h : Fin 8) : (s.drive a).head h = s.head h := rfl
@[simp] theorem State.head_setTank (m : TankMeasure) (s : State) (h : Fin 8) : (s.setTank m).head h = s.head h := rfl
@[simp] theorem State.head_setCode (c : BitVec 12) (s : State) (h : Fin 8) : (s.setCode c).head h = s.head h :=
  State.head_congr (by simp) h
@[simp] theorem State.head_connect (c : Option (Fin 8)) (s : State) (h : Fin 8) : (s.connect c).head h = s.head h :=
  State.head_congr (by simp) h
@[simp] theorem State.head_setEnable (b : Bool) (s : State) (h : Fin 8) : (s.setEnable b).head h = s.head h :=
  State.head_congr (by simp) h

/-! ### One record -/

/-- Records are found in the table alone. -/
theorem State.slotOf_congr {s s' : State} (e : s'.table.records = s.table.records) (k : Key) : s'.slotOf k = s.slotOf k := by
  simp [State.slotOf, e]

theorem State.joint_congr {s s' : State} (e : s'.table.records = s.table.records) (k : Key) : s'.joint k = s.joint k := by
  simp [State.joint, State.slotOf_congr e]

/-- The record found by a key holds it. -/
theorem State.joint_key {s : State} {k : Key} {j : Joint} (h : s.joint k = some j) : j.key = k := by
  simp only [State.joint, State.slotOf, Option.map_eq_some_iff] at h
  obtain ⟨x, hx, rfl⟩ := h
  simpa using List.find?_some hx

/-- The record found by a key lies in the table. -/
theorem State.joint_mem {s : State} {k : Key} {j : Joint} (h : s.joint k = some j) : ∃ n, (n, j) ∈ s.table.records := by
  simp only [State.joint, State.slotOf, Option.map_eq_some_iff] at h
  obtain ⟨x, hx, rfl⟩ := h
  exact ⟨x.1, List.mem_of_find?_eq_some hx⟩

/-- A change of one record that keeps its key is found under that key, and no other record is touched. -/
theorem State.joint_modJoint (k k' : Key) (f : Joint → Joint) (s : State) (hf : ∀ j, (f j).key = j.key) :
    (s.modJoint k f).joint k' = if k' = k then (s.joint k').map f else s.joint k' := by
  simp only [State.joint, State.slotOf, State.modJoint, List.find?_map]
  have hp : ((fun x : Nat × Joint => decide (x.2.key = k')) ∘ fun x => if x.2.key = k then (x.1, f x.2) else x) =
      fun x => decide (x.2.key = k') := by
    funext x
    by_cases hx : x.2.key = k <;> simp [hx, hf]
  rw [hp]
  cases hfind : List.find? (fun x : Nat × Joint => decide (x.2.key = k')) s.table.records with
  | none => split <;> simp
  | some x =>
    have hk : x.2.key = k' := by simpa using List.find?_some hfind
    by_cases e : k' = k
    · subst e; simp [hk]
    · have : x.2.key ≠ k := by rw [hk]; exact e
      simp [e, this]

/-- The slots and the number of the records stay when one of them changes. -/
@[simp] theorem State.liveCount_modJoint (k : Key) (f : Joint → Joint) (s : State) :
    (s.modJoint k f).liveCount = s.liveCount := by simp [State.liveCount]

@[simp] theorem State.mark_modJoint (k : Key) (f : Joint → Joint) (s : State) :
    (s.modJoint k f).table.mark = s.table.mark := rfl

/-- A record of the changed table is a record of the old one, changed if it holds the key. -/
theorem State.mem_modJoint {k : Key} {f : Joint → Joint} {s : State} {x : Nat × Joint} :
    x ∈ (s.modJoint k f).table.records ↔ ∃ y ∈ s.table.records, (if y.2.key = k then (y.1, f y.2) else y) = x := by
  simp

/-- A change of a head's bound record changes the record it is bound to, or nothing. -/
theorem State.modBound_eq (h : Fin 8) (f : Joint → Joint) (s : State) :
    s.modBound h f = match (s.head h).bound with
      | some k => s.modJoint k f
      | none => s := rfl

@[simp] theorem State.modBound_heads (h : Fin 8) (f : Joint → Joint) (s : State) : (s.modBound h f).heads = s.heads := by
  unfold State.modBound; split <;> rfl

/-! ### Events (R174) -/

@[simp] theorem State.raise_get_same (k : EventKind) (s : State) :
    (s.raise k).events.get k.code = (s.events.get k.code).raised := by
  simp [State.raise, Vector.get_eq_getElem]

theorem State.raise_get_other {k : EventKind} {n : Fin 9} (s : State) (h : n ≠ k.code) :
    (s.raise k).events.get n = s.events.get n := by
  have : k.code.val ≠ n.val := fun e => h (Fin.ext e.symm)
  simp [State.raise, Vector.get_eq_getElem, this]

/-- A raise leaves its kind pending, with a count between 1 and 255 and its level as it was. -/
theorem EventEntry.raised_spec (e : EventEntry) :
    e.raised.pending = true ∧ 0 < e.raised.count ∧ e.raised.count ≤ 255 ∧ e.raised.level = e.level := by
  unfold EventEntry.raised
  split
  · next hp => exact ⟨hp, by simp, by simp, rfl⟩
  · simp

/-! ### Output lines (R156) -/

/-- A code that changes is sent once; one that does not is not sent. -/
theorem State.setCode_driven (c : BitVec 12) (s : State) :
    (s.setCode c).driven = if s.gen.code = c then s.driven else s.driven ++ [.transfer (codeDigits c)] := by
  unfold State.setCode; split <;> rfl

theorem State.connect_driven (c : Option (Fin 8)) (s : State) :
    (s.connect c).driven = if s.gen.connected = c then s.driven else s.driven ++ [.connect c] := by
  unfold State.connect; split <;> rfl

theorem State.setEnable_driven (b : Bool) (s : State) :
    (s.setEnable b).driven = if s.gen.enable = b then s.driven else s.driven ++ [.enable b] := by
  unfold State.setEnable; split <;> rfl

/-! ### Links -/

@[simp] theorem State.link_setLink_same (l : Link) (x : LinkState) (s : State) : (s.setLink l x).link l = x := by
  cases l <;> rfl

theorem State.link_setLink_other {l l' : Link} (x : LinkState) (s : State) (h : l' ≠ l) :
    (s.setLink l x).link l' = s.link l' := by
  cases l <;> cases l' <;> first | rfl | exact absurd rfl h

@[simp] theorem State.link_setReceiver_same (l : Link) (r : Receiver) (s : State) :
    (s.setReceiver l r).link l = { s.link l with receiver := r } := by cases l <;> rfl

@[simp] theorem State.link_queueAnswer_same (l : Link) (fr : List Byte) (s : State) :
    (s.queueAnswer l fr).link l = { s.link l with answers := (s.link l).answers ++ [fr] } := by cases l <;> rfl

@[simp] theorem State.link_setInProgress_same (l : Link) (p : Option InProgress) (s : State) :
    (s.setInProgress l p).link l = { s.link l with inProgress := p } := by cases l <;> rfl

@[simp] theorem State.link_raise (k : EventKind) (l : Link) (s : State) : (s.raise k).link l = s.link l := by
  cases l <;> rfl

@[simp] theorem State.link_arrive (t due : Nat) (l : Link) (s : State) : (s.arrive t due).link l = s.link l := by
  cases l <;> rfl

/-- A good frame of a permitted request of a suitable length, on a link with a place and nothing in progress, is handed to
its block (R162 step 6). -/
theorem State.judgeFrame_handed (l : Link) (tag : Byte) (c : RequestCode) (n : Nat) (op : BlockOp) (s : State)
    (hp : (s.link l).hasPlace = true) (hi : (s.link l).inProgress = none) (ha : c.permittedOn l = true)
    (hn : c.lengthSuits n = true) :
    s.judgeFrame l tag (some c) n op = match op (s.setReceiver l .waiting) with
      | (s', some r) => s'.queueAnswer l (answerFrame r.status tag r.payload)
      | (s', none) => s' := by
  have h1 : ((s.setReceiver l .waiting).link l).hasPlace = true := by
    rw [State.link_setReceiver_same]; exact hp
  have h2 : ((s.setReceiver l .waiting).link l).inProgress = none := by
    rw [State.link_setReceiver_same]; exact hi
  simp only [State.judgeFrame, h1, h2, ha, hn]
  rfl

/-- A frame that finds no place is discarded, with a LINK ERROR (R162 step 1). -/
theorem State.judgeFrame_full (l : Link) (tag : Byte) (c : Option RequestCode) (n : Nat) (op : BlockOp) (s : State)
    (hp : (s.link l).hasPlace = false) :
    s.judgeFrame l tag c n op = (s.setReceiver l .waiting).raise .linkError := by
  have h1 : ((s.setReceiver l .waiting).link l).hasPlace = false := by
    rw [State.link_setReceiver_same]; exact hp
  simp only [State.judgeFrame, h1]
  rfl

/-- A frame that finds a request in progress is answered BUSY (R162 step 2). -/
theorem State.judgeFrame_busy (l : Link) (tag : Byte) (c : Option RequestCode) (n : Nat) (op : BlockOp) (s : State)
    (hp : (s.link l).hasPlace = true) (hi : (s.link l).inProgress.isSome = true) :
    s.judgeFrame l tag c n op = (s.setReceiver l .waiting).queueAnswer l (answerFrame .busy tag []) := by
  have h1 : ((s.setReceiver l .waiting).link l).hasPlace = true := by
    rw [State.link_setReceiver_same]; exact hp
  have h2 : ((s.setReceiver l .waiting).link l).inProgress.isSome = true := by
    rw [State.link_setReceiver_same]; exact hi
  simp only [State.judgeFrame, h1, h2]
  rfl

/-- A frame that is handed on and whose code names no request is answered UNKNOWN (R162 step 3). -/
theorem State.judgeFrame_unknown (l : Link) (tag : Byte) (n : Nat) (op : BlockOp) (s : State)
    (hp : (s.link l).hasPlace = true) (hi : (s.link l).inProgress = none) :
    s.judgeFrame l tag none n op = (s.setReceiver l .waiting).queueAnswer l (answerFrame .unknown tag []) := by
  have h1 : ((s.setReceiver l .waiting).link l).hasPlace = true := by
    rw [State.link_setReceiver_same]; exact hp
  have h2 : ((s.setReceiver l .waiting).link l).inProgress = none := by
    rw [State.link_setReceiver_same]; exact hi
  simp only [State.judgeFrame, h1, h2]
  rfl

/-! ### Energy and the cut of an output (R87, R106) -/

/-- With no account nothing is charged. -/
theorem State.closeAccount_of_none (onTime : Nat) (s : State) (h : s.power.account = none) : s.closeAccount onTime = s := by
  simp [State.closeAccount, h]

@[simp] theorem State.closeAccount_account (onTime : Nat) (s : State) : (s.closeAccount onTime).power.account = none := by
  unfold State.closeAccount
  split
  · assumption
  · rfl

@[simp] theorem State.closeAccount_startRefs (onTime : Nat) (s : State) :
    (s.closeAccount onTime).power.startRefs = s.power.startRefs := by
  unfold State.closeAccount; split <;> rfl

@[simp] theorem State.closeAccount_heads (onTime : Nat) (s : State) : (s.closeAccount onTime).heads = s.heads := by
  unfold State.closeAccount; split <;> rfl

@[simp] theorem State.closeAccount_events (onTime : Nat) (s : State) : (s.closeAccount onTime).events = s.events := by
  unfold State.closeAccount; split <;> rfl

@[simp] theorem State.closeAccount_gen (onTime : Nat) (s : State) : (s.closeAccount onTime).gen = s.gen := by
  unfold State.closeAccount; split <;> rfl

@[simp] theorem State.closeAccount_sched (onTime : Nat) (s : State) : (s.closeAccount onTime).sched = s.sched := by
  unfold State.closeAccount; split <;> rfl

/-- A cut with no running granted output changes nothing. -/
theorem State.cutOutput_of_no_grant (s : State) (h : ∀ c ∈ s.sched.current, c.grant = none ∨ c.cut = true) :
    s.cutOutput = s := by
  unfold State.cutOutput
  split
  · rfl
  · next c hc =>
    have := h c hc
    rw [if_neg]
    rintro ⟨h1, h2⟩
    rcases this with h3 | h3
    · simp [h3] at h1
    · simp [h3] at h2

/-- A cut touches no head record and raises nothing. -/
@[simp] theorem State.cutOutput_heads (s : State) : s.cutOutput.heads = s.heads := by
  unfold State.cutOutput
  split
  · rfl
  · split <;> simp

@[simp] theorem State.cutOutput_events (s : State) : s.cutOutput.events = s.events := by
  unfold State.cutOutput
  split
  · rfl
  · split <;> simp

@[simp] theorem State.cutIfGranted_heads (h : Fin 8) (s : State) : (s.cutIfGranted h).heads = s.heads := by
  unfold State.cutIfGranted; split <;> simp

@[simp] theorem State.cutIfGranted_events (h : Fin 8) (s : State) : (s.cutIfGranted h).events = s.events := by
  unfold State.cutIfGranted; split <;> simp

/-! ### Starts and ends -/

/-- A head that is not ready does not start. -/
theorem State.testStart_of_not_ready (h : Fin 8) (s : State) (hr : s.startReady h = false) : s.testStart h = s := by
  simp [State.testStart, hr]

/-- A head fault at a head in FAULT or OFF changes nothing (R136). -/
theorem State.headFault_of_stopped (h : Fin 8) (c : FaultCause) (s : State)
    (hs : (s.head h).state = .fault ∨ (s.head h).state = .off) : s.headFault h c = s := by
  simp [State.headFault, hs]

/-- A rejection to COOLING of a head whose joint does not heat changes nothing (R68). -/
theorem State.rejectToCooling_of_not_heating (h : Fin 8) (c : RejectCause) (s : State)
    (hj : ∀ j ∈ s.boundJoint h, j.state.heating = false) : s.rejectToCooling h c = s := by
  unfold State.rejectToCooling
  split
  · next j e => simp [hj j e]
  · rfl

/-- A recovery test whose conditions do not hold changes nothing (R149). -/
theorem State.testRecovery_of_not (s : State) (h : s.cell.mayRecover = false) : s.testRecovery = s := by
  simp [State.testRecovery, h]

/-- With no pending switch none takes effect (R112). -/
theorem State.applySwitch_of_none (s : State) (h : s.sched.switchTo = none) : s.applySwitch = s := by
  simp [State.applySwitch, h]

end Sys2Proof.Machine
end

