-- ==== Sys2Proof/Laws/Frames.lean ====
section
/-! SUPPORT. Which fields of the state each larger operation leaves as they were. -/

namespace Sys2Proof.Machine

/-! ### `State.modBound` -/

@[simp] theorem State.modBound_pending (h : Fin 8) (f : Joint → Joint) (s : State) :
    (s.modBound h f).pending = s.pending := by
  unfold State.modBound; repeat' split
  all_goals simp
@[simp] theorem State.modBound_phase (h : Fin 8) (f : Joint → Joint) (s : State) :
    (s.modBound h f).phase = s.phase := by
  unfold State.modBound; repeat' split
  all_goals simp
@[simp] theorem State.modBound_now (h : Fin 8) (f : Joint → Joint) (s : State) : (s.modBound h f).now = s.now := by
  unfold State.modBound; repeat' split
  all_goals simp
@[simp] theorem State.modBound_profiles (h : Fin 8) (f : Joint → Joint) (s : State) :
    (s.modBound h f).profiles = s.profiles := by
  unfold State.modBound; repeat' split
  all_goals simp
@[simp] theorem State.modBound_power (h : Fin 8) (f : Joint → Joint) (s : State) :
    (s.modBound h f).power = s.power := by
  unfold State.modBound; repeat' split
  all_goals simp
@[simp] theorem State.modBound_sched (h : Fin 8) (f : Joint → Joint) (s : State) :
    (s.modBound h f).sched = s.sched := by
  unfold State.modBound; repeat' split
  all_goals simp
@[simp] theorem State.modBound_gen (h : Fin 8) (f : Joint → Joint) (s : State) : (s.modBound h f).gen = s.gen := by
  unfold State.modBound; repeat' split
  all_goals simp
@[simp] theorem State.modBound_cell (h : Fin 8) (f : Joint → Joint) (s : State) : (s.modBound h f).cell = s.cell := by
  unfold State.modBound; repeat' split
  all_goals simp
@[simp] theorem State.modBound_cellLink (h : Fin 8) (f : Joint → Joint) (s : State) :
    (s.modBound h f).cellLink = s.cellLink := by
  unfold State.modBound; repeat' split
  all_goals simp
@[simp] theorem State.modBound_inspLink (h : Fin 8) (f : Joint → Joint) (s : State) :
    (s.modBound h f).inspLink = s.inspLink := by
  unfold State.modBound; repeat' split
  all_goals simp
@[simp] theorem State.modBound_port (h : Fin 8) (f : Joint → Joint) (s : State) : (s.modBound h f).port = s.port := by
  unfold State.modBound; repeat' split
  all_goals simp
@[simp] theorem State.modBound_txSince (h : Fin 8) (f : Joint → Joint) (s : State) : (s.modBound h f).txSince = s.txSince := by
  unfold State.modBound; repeat' split
  all_goals simp
@[simp] theorem State.modBound_events (h : Fin 8) (f : Joint → Joint) (s : State) :
    (s.modBound h f).events = s.events := by
  unfold State.modBound; repeat' split
  all_goals simp
@[simp] theorem State.modBound_config (h : Fin 8) (f : Joint → Joint) (s : State) :
    (s.modBound h f).config = s.config := by
  unfold State.modBound; repeat' split
  all_goals simp
@[simp] theorem State.modBound_driven (h : Fin 8) (f : Joint → Joint) (s : State) :
    (s.modBound h f).driven = s.driven := by
  unfold State.modBound; repeat' split
  all_goals simp

/-! ### `State.endBadFrame` -/

@[simp] theorem State.endBadFrame_pending (l : Link) (s : State) : (s.endBadFrame l).pending = s.pending := by
  unfold State.endBadFrame; dsimp only; repeat' split
  all_goals simp
@[simp] theorem State.endBadFrame_phase (l : Link) (s : State) : (s.endBadFrame l).phase = s.phase := by
  unfold State.endBadFrame; dsimp only; repeat' split
  all_goals simp
@[simp] theorem State.endBadFrame_now (l : Link) (s : State) : (s.endBadFrame l).now = s.now := by
  unfold State.endBadFrame; dsimp only; repeat' split
  all_goals simp
@[simp] theorem State.endBadFrame_table (l : Link) (s : State) : (s.endBadFrame l).table = s.table := by
  unfold State.endBadFrame; dsimp only; repeat' split
  all_goals simp
@[simp] theorem State.endBadFrame_profiles (l : Link) (s : State) : (s.endBadFrame l).profiles = s.profiles := by
  unfold State.endBadFrame; dsimp only; repeat' split
  all_goals simp
@[simp] theorem State.endBadFrame_heads (l : Link) (s : State) : (s.endBadFrame l).heads = s.heads := by
  unfold State.endBadFrame; dsimp only; repeat' split
  all_goals simp
@[simp] theorem State.endBadFrame_power (l : Link) (s : State) : (s.endBadFrame l).power = s.power := by
  unfold State.endBadFrame; dsimp only; repeat' split
  all_goals simp
@[simp] theorem State.endBadFrame_sched (l : Link) (s : State) : (s.endBadFrame l).sched = s.sched := by
  unfold State.endBadFrame; dsimp only; repeat' split
  all_goals simp
@[simp] theorem State.endBadFrame_gen (l : Link) (s : State) : (s.endBadFrame l).gen = s.gen := by
  unfold State.endBadFrame; dsimp only; repeat' split
  all_goals simp
@[simp] theorem State.endBadFrame_cell (l : Link) (s : State) : (s.endBadFrame l).cell = s.cell := by
  unfold State.endBadFrame; dsimp only; repeat' split
  all_goals simp
@[simp] theorem State.endBadFrame_port (l : Link) (s : State) : (s.endBadFrame l).port = s.port := by
  unfold State.endBadFrame; dsimp only; repeat' split
  all_goals simp
/-- A FRAME answer that finds a place goes out at once if the Inspection Link's queue was empty. -/
theorem State.endBadFrame_txSince (l : Link) (s : State) :
    (s.endBadFrame l).txSince = if (s.link l).hasPlace then s.txSinceAfter l else s.txSince := by
  have hp : (((s.setReceiver l .waiting).raise .linkError).link l).hasPlace = (s.link l).hasPlace := by simp [LinkState.hasPlace]
  unfold State.endBadFrame
  simp only [hp]
  split
  · rw [State.queueAnswer_txSince]; cases l <;> rfl
  · simp
@[simp] theorem State.endBadFrame_config (l : Link) (s : State) : (s.endBadFrame l).config = s.config := by
  unfold State.endBadFrame; dsimp only; repeat' split
  all_goals simp
@[simp] theorem State.endBadFrame_driven (l : Link) (s : State) : (s.endBadFrame l).driven = s.driven := by
  unfold State.endBadFrame; dsimp only; repeat' split
  all_goals simp

/-! ### `State.closeAccount` -/

@[simp] theorem State.closeAccount_pending (onTime : Nat) (s : State) :
    (s.closeAccount onTime).pending = s.pending := by
  unfold State.closeAccount; repeat' split
  all_goals simp
@[simp] theorem State.closeAccount_phase (onTime : Nat) (s : State) : (s.closeAccount onTime).phase = s.phase := by
  unfold State.closeAccount; repeat' split
  all_goals simp
@[simp] theorem State.closeAccount_now (onTime : Nat) (s : State) : (s.closeAccount onTime).now = s.now := by
  unfold State.closeAccount; repeat' split
  all_goals simp
@[simp] theorem State.closeAccount_profiles (onTime : Nat) (s : State) :
    (s.closeAccount onTime).profiles = s.profiles := by
  unfold State.closeAccount; repeat' split
  all_goals simp
@[simp] theorem State.closeAccount_cell (onTime : Nat) (s : State) : (s.closeAccount onTime).cell = s.cell := by
  unfold State.closeAccount; repeat' split
  all_goals simp
@[simp] theorem State.closeAccount_cellLink (onTime : Nat) (s : State) :
    (s.closeAccount onTime).cellLink = s.cellLink := by
  unfold State.closeAccount; repeat' split
  all_goals simp
@[simp] theorem State.closeAccount_inspLink (onTime : Nat) (s : State) :
    (s.closeAccount onTime).inspLink = s.inspLink := by
  unfold State.closeAccount; repeat' split
  all_goals simp
@[simp] theorem State.closeAccount_port (onTime : Nat) (s : State) : (s.closeAccount onTime).port = s.port := by
  unfold State.closeAccount; repeat' split
  all_goals simp
@[simp] theorem State.closeAccount_txSince (onTime : Nat) (s : State) : (s.closeAccount onTime).txSince = s.txSince := by
  unfold State.closeAccount; repeat' split
  all_goals simp
@[simp] theorem State.closeAccount_config (onTime : Nat) (s : State) : (s.closeAccount onTime).config = s.config := by
  unfold State.closeAccount; repeat' split
  all_goals simp
@[simp] theorem State.closeAccount_driven (onTime : Nat) (s : State) : (s.closeAccount onTime).driven = s.driven := by
  unfold State.closeAccount; repeat' split
  all_goals simp

/-! ### `State.cutOutput` -/

@[simp] theorem State.cutOutput_pending (s : State) : (s.cutOutput).pending = s.pending := by
  unfold State.cutOutput; repeat' split
  all_goals simp
@[simp] theorem State.cutOutput_phase (s : State) : (s.cutOutput).phase = s.phase := by
  unfold State.cutOutput; repeat' split
  all_goals simp
@[simp] theorem State.cutOutput_now (s : State) : (s.cutOutput).now = s.now := by
  unfold State.cutOutput; repeat' split
  all_goals simp
@[simp] theorem State.cutOutput_profiles (s : State) : (s.cutOutput).profiles = s.profiles := by
  unfold State.cutOutput; repeat' split
  all_goals simp
@[simp] theorem State.cutOutput_cell (s : State) : (s.cutOutput).cell = s.cell := by
  unfold State.cutOutput; repeat' split
  all_goals simp
@[simp] theorem State.cutOutput_cellLink (s : State) : (s.cutOutput).cellLink = s.cellLink := by
  unfold State.cutOutput; repeat' split
  all_goals simp
@[simp] theorem State.cutOutput_inspLink (s : State) : (s.cutOutput).inspLink = s.inspLink := by
  unfold State.cutOutput; repeat' split
  all_goals simp
@[simp] theorem State.cutOutput_port (s : State) : (s.cutOutput).port = s.port := by
  unfold State.cutOutput; repeat' split
  all_goals simp
@[simp] theorem State.cutOutput_txSince (s : State) : (s.cutOutput).txSince = s.txSince := by
  unfold State.cutOutput; repeat' split
  all_goals simp
@[simp] theorem State.cutOutput_config (s : State) : (s.cutOutput).config = s.config := by
  unfold State.cutOutput; repeat' split
  all_goals simp

/-! ### `State.cutIfGranted` -/

@[simp] theorem State.cutIfGranted_pending (h : Fin 8) (s : State) : (s.cutIfGranted h).pending = s.pending := by
  unfold State.cutIfGranted; repeat' split
  all_goals simp
@[simp] theorem State.cutIfGranted_phase (h : Fin 8) (s : State) : (s.cutIfGranted h).phase = s.phase := by
  unfold State.cutIfGranted; repeat' split
  all_goals simp
@[simp] theorem State.cutIfGranted_now (h : Fin 8) (s : State) : (s.cutIfGranted h).now = s.now := by
  unfold State.cutIfGranted; repeat' split
  all_goals simp
@[simp] theorem State.cutIfGranted_profiles (h : Fin 8) (s : State) : (s.cutIfGranted h).profiles = s.profiles := by
  unfold State.cutIfGranted; repeat' split
  all_goals simp
@[simp] theorem State.cutIfGranted_cell (h : Fin 8) (s : State) : (s.cutIfGranted h).cell = s.cell := by
  unfold State.cutIfGranted; repeat' split
  all_goals simp
@[simp] theorem State.cutIfGranted_cellLink (h : Fin 8) (s : State) : (s.cutIfGranted h).cellLink = s.cellLink := by
  unfold State.cutIfGranted; repeat' split
  all_goals simp
@[simp] theorem State.cutIfGranted_inspLink (h : Fin 8) (s : State) : (s.cutIfGranted h).inspLink = s.inspLink := by
  unfold State.cutIfGranted; repeat' split
  all_goals simp
@[simp] theorem State.cutIfGranted_port (h : Fin 8) (s : State) : (s.cutIfGranted h).port = s.port := by
  unfold State.cutIfGranted; repeat' split
  all_goals simp
@[simp] theorem State.cutIfGranted_txSince (h : Fin 8) (s : State) : (s.cutIfGranted h).txSince = s.txSince := by
  unfold State.cutIfGranted; repeat' split
  all_goals simp
@[simp] theorem State.cutIfGranted_config (h : Fin 8) (s : State) : (s.cutIfGranted h).config = s.config := by
  unfold State.cutIfGranted; repeat' split
  all_goals simp

/-! ### `State.rejectJoint` -/

@[simp] theorem State.rejectJoint_pending (k : Key) (c : RejectCause) (s : State) :
    (s.rejectJoint k c).pending = s.pending := by
  unfold State.rejectJoint
  simp
@[simp] theorem State.rejectJoint_phase (k : Key) (c : RejectCause) (s : State) :
    (s.rejectJoint k c).phase = s.phase := by
  unfold State.rejectJoint
  simp
@[simp] theorem State.rejectJoint_now (k : Key) (c : RejectCause) (s : State) : (s.rejectJoint k c).now = s.now := by
  unfold State.rejectJoint
  simp
@[simp] theorem State.rejectJoint_profiles (k : Key) (c : RejectCause) (s : State) :
    (s.rejectJoint k c).profiles = s.profiles := by
  unfold State.rejectJoint
  simp
@[simp] theorem State.rejectJoint_heads (k : Key) (c : RejectCause) (s : State) :
    (s.rejectJoint k c).heads = s.heads := by
  unfold State.rejectJoint
  simp
@[simp] theorem State.rejectJoint_power (k : Key) (c : RejectCause) (s : State) :
    (s.rejectJoint k c).power = s.power := by
  unfold State.rejectJoint
  simp
@[simp] theorem State.rejectJoint_sched (k : Key) (c : RejectCause) (s : State) :
    (s.rejectJoint k c).sched = s.sched := by
  unfold State.rejectJoint
  simp
@[simp] theorem State.rejectJoint_gen (k : Key) (c : RejectCause) (s : State) : (s.rejectJoint k c).gen = s.gen := by
  unfold State.rejectJoint
  simp
@[simp] theorem State.rejectJoint_cell (k : Key) (c : RejectCause) (s : State) :
    (s.rejectJoint k c).cell = s.cell := by
  unfold State.rejectJoint
  simp
@[simp] theorem State.rejectJoint_cellLink (k : Key) (c : RejectCause) (s : State) :
    (s.rejectJoint k c).cellLink = s.cellLink := by
  unfold State.rejectJoint
  simp
@[simp] theorem State.rejectJoint_inspLink (k : Key) (c : RejectCause) (s : State) :
    (s.rejectJoint k c).inspLink = s.inspLink := by
  unfold State.rejectJoint
  simp
@[simp] theorem State.rejectJoint_port (k : Key) (c : RejectCause) (s : State) :
    (s.rejectJoint k c).port = s.port := by
  unfold State.rejectJoint
  simp
@[simp] theorem State.rejectJoint_txSince (k : Key) (c : RejectCause) (s : State) :
    (s.rejectJoint k c).txSince = s.txSince := by
  unfold State.rejectJoint
  simp
@[simp] theorem State.rejectJoint_config (k : Key) (c : RejectCause) (s : State) :
    (s.rejectJoint k c).config = s.config := by
  unfold State.rejectJoint
  simp
@[simp] theorem State.rejectJoint_driven (k : Key) (c : RejectCause) (s : State) :
    (s.rejectJoint k c).driven = s.driven := by
  unfold State.rejectJoint
  simp

/-! ### `State.expireCooling` -/

@[simp] theorem State.expireCooling_pending (h : Fin 8) (s : State) : (s.expireCooling h).pending = s.pending := by
  unfold State.expireCooling; repeat' split
  all_goals simp
@[simp] theorem State.expireCooling_phase (h : Fin 8) (s : State) : (s.expireCooling h).phase = s.phase := by
  unfold State.expireCooling; repeat' split
  all_goals simp
@[simp] theorem State.expireCooling_now (h : Fin 8) (s : State) : (s.expireCooling h).now = s.now := by
  unfold State.expireCooling; repeat' split
  all_goals simp
@[simp] theorem State.expireCooling_profiles (h : Fin 8) (s : State) : (s.expireCooling h).profiles = s.profiles := by
  unfold State.expireCooling; repeat' split
  all_goals simp
@[simp] theorem State.expireCooling_power (h : Fin 8) (s : State) : (s.expireCooling h).power = s.power := by
  unfold State.expireCooling; repeat' split
  all_goals simp
@[simp] theorem State.expireCooling_sched (h : Fin 8) (s : State) : (s.expireCooling h).sched = s.sched := by
  unfold State.expireCooling; repeat' split
  all_goals simp
@[simp] theorem State.expireCooling_gen (h : Fin 8) (s : State) : (s.expireCooling h).gen = s.gen := by
  unfold State.expireCooling; repeat' split
  all_goals simp
@[simp] theorem State.expireCooling_cell (h : Fin 8) (s : State) : (s.expireCooling h).cell = s.cell := by
  unfold State.expireCooling; repeat' split
  all_goals simp
@[simp] theorem State.expireCooling_cellLink (h : Fin 8) (s : State) : (s.expireCooling h).cellLink = s.cellLink := by
  unfold State.expireCooling; repeat' split
  all_goals simp
@[simp] theorem State.expireCooling_inspLink (h : Fin 8) (s : State) : (s.expireCooling h).inspLink = s.inspLink := by
  unfold State.expireCooling; repeat' split
  all_goals simp
@[simp] theorem State.expireCooling_port (h : Fin 8) (s : State) : (s.expireCooling h).port = s.port := by
  unfold State.expireCooling; repeat' split
  all_goals simp
@[simp] theorem State.expireCooling_txSince (h : Fin 8) (s : State) : (s.expireCooling h).txSince = s.txSince := by
  unfold State.expireCooling; repeat' split
  all_goals simp
@[simp] theorem State.expireCooling_config (h : Fin 8) (s : State) : (s.expireCooling h).config = s.config := by
  unfold State.expireCooling; repeat' split
  all_goals simp
@[simp] theorem State.expireCooling_driven (h : Fin 8) (s : State) : (s.expireCooling h).driven = s.driven := by
  unfold State.expireCooling; repeat' split
  all_goals simp

/-! ### `State.beginCooling` -/

@[simp] theorem State.beginCooling_pending (h : Fin 8) (coolTime : Nat) (s : State) :
    (s.beginCooling h coolTime).pending = s.pending := by
  unfold State.beginCooling; repeat' split
  all_goals simp
@[simp] theorem State.beginCooling_phase (h : Fin 8) (coolTime : Nat) (s : State) :
    (s.beginCooling h coolTime).phase = s.phase := by
  unfold State.beginCooling; repeat' split
  all_goals simp
@[simp] theorem State.beginCooling_now (h : Fin 8) (coolTime : Nat) (s : State) :
    (s.beginCooling h coolTime).now = s.now := by
  unfold State.beginCooling; repeat' split
  all_goals simp
@[simp] theorem State.beginCooling_profiles (h : Fin 8) (coolTime : Nat) (s : State) :
    (s.beginCooling h coolTime).profiles = s.profiles := by
  unfold State.beginCooling; repeat' split
  all_goals simp
@[simp] theorem State.beginCooling_power (h : Fin 8) (coolTime : Nat) (s : State) :
    (s.beginCooling h coolTime).power = s.power := by
  unfold State.beginCooling; repeat' split
  all_goals simp
@[simp] theorem State.beginCooling_sched (h : Fin 8) (coolTime : Nat) (s : State) :
    (s.beginCooling h coolTime).sched = s.sched := by
  unfold State.beginCooling; repeat' split
  all_goals simp
@[simp] theorem State.beginCooling_gen (h : Fin 8) (coolTime : Nat) (s : State) :
    (s.beginCooling h coolTime).gen = s.gen := by
  unfold State.beginCooling; repeat' split
  all_goals simp
@[simp] theorem State.beginCooling_cell (h : Fin 8) (coolTime : Nat) (s : State) :
    (s.beginCooling h coolTime).cell = s.cell := by
  unfold State.beginCooling; repeat' split
  all_goals simp
@[simp] theorem State.beginCooling_cellLink (h : Fin 8) (coolTime : Nat) (s : State) :
    (s.beginCooling h coolTime).cellLink = s.cellLink := by
  unfold State.beginCooling; repeat' split
  all_goals simp
@[simp] theorem State.beginCooling_inspLink (h : Fin 8) (coolTime : Nat) (s : State) :
    (s.beginCooling h coolTime).inspLink = s.inspLink := by
  unfold State.beginCooling; repeat' split
  all_goals simp
@[simp] theorem State.beginCooling_port (h : Fin 8) (coolTime : Nat) (s : State) :
    (s.beginCooling h coolTime).port = s.port := by
  unfold State.beginCooling; repeat' split
  all_goals simp
@[simp] theorem State.beginCooling_txSince (h : Fin 8) (coolTime : Nat) (s : State) :
    (s.beginCooling h coolTime).txSince = s.txSince := by
  unfold State.beginCooling; repeat' split
  all_goals simp
@[simp] theorem State.beginCooling_config (h : Fin 8) (coolTime : Nat) (s : State) :
    (s.beginCooling h coolTime).config = s.config := by
  unfold State.beginCooling; repeat' split
  all_goals simp
@[simp] theorem State.beginCooling_driven (h : Fin 8) (coolTime : Nat) (s : State) :
    (s.beginCooling h coolTime).driven = s.driven := by
  unfold State.beginCooling; repeat' split
  all_goals simp

/-! ### `State.rejectToCooling` -/

@[simp] theorem State.rejectToCooling_pending (h : Fin 8) (c : RejectCause) (s : State) :
    (s.rejectToCooling h c).pending = s.pending := by
  unfold State.rejectToCooling; repeat' split
  all_goals simp
@[simp] theorem State.rejectToCooling_phase (h : Fin 8) (c : RejectCause) (s : State) :
    (s.rejectToCooling h c).phase = s.phase := by
  unfold State.rejectToCooling; repeat' split
  all_goals simp
@[simp] theorem State.rejectToCooling_now (h : Fin 8) (c : RejectCause) (s : State) :
    (s.rejectToCooling h c).now = s.now := by
  unfold State.rejectToCooling; repeat' split
  all_goals simp
@[simp] theorem State.rejectToCooling_profiles (h : Fin 8) (c : RejectCause) (s : State) :
    (s.rejectToCooling h c).profiles = s.profiles := by
  unfold State.rejectToCooling; repeat' split
  all_goals simp
@[simp] theorem State.rejectToCooling_cell (h : Fin 8) (c : RejectCause) (s : State) :
    (s.rejectToCooling h c).cell = s.cell := by
  unfold State.rejectToCooling; repeat' split
  all_goals simp
@[simp] theorem State.rejectToCooling_cellLink (h : Fin 8) (c : RejectCause) (s : State) :
    (s.rejectToCooling h c).cellLink = s.cellLink := by
  unfold State.rejectToCooling; repeat' split
  all_goals simp
@[simp] theorem State.rejectToCooling_inspLink (h : Fin 8) (c : RejectCause) (s : State) :
    (s.rejectToCooling h c).inspLink = s.inspLink := by
  unfold State.rejectToCooling; repeat' split
  all_goals simp
@[simp] theorem State.rejectToCooling_port (h : Fin 8) (c : RejectCause) (s : State) :
    (s.rejectToCooling h c).port = s.port := by
  unfold State.rejectToCooling; repeat' split
  all_goals simp
@[simp] theorem State.rejectToCooling_txSince (h : Fin 8) (c : RejectCause) (s : State) :
    (s.rejectToCooling h c).txSince = s.txSince := by
  unfold State.rejectToCooling; repeat' split
  all_goals simp
@[simp] theorem State.rejectToCooling_config (h : Fin 8) (c : RejectCause) (s : State) :
    (s.rejectToCooling h c).config = s.config := by
  unfold State.rejectToCooling; repeat' split
  all_goals simp

/-! ### `State.unbindHead` -/

@[simp] theorem State.unbindHead_pending (h : Fin 8) (st : HeadState) (s : State) :
    (s.unbindHead h st).pending = s.pending := by
  unfold State.unbindHead
  simp
@[simp] theorem State.unbindHead_phase (h : Fin 8) (st : HeadState) (s : State) :
    (s.unbindHead h st).phase = s.phase := by
  unfold State.unbindHead
  simp
@[simp] theorem State.unbindHead_now (h : Fin 8) (st : HeadState) (s : State) : (s.unbindHead h st).now = s.now := by
  unfold State.unbindHead
  simp
@[simp] theorem State.unbindHead_profiles (h : Fin 8) (st : HeadState) (s : State) :
    (s.unbindHead h st).profiles = s.profiles := by
  unfold State.unbindHead
  simp
@[simp] theorem State.unbindHead_power (h : Fin 8) (st : HeadState) (s : State) :
    (s.unbindHead h st).power = s.power := by
  unfold State.unbindHead
  simp
@[simp] theorem State.unbindHead_sched (h : Fin 8) (st : HeadState) (s : State) :
    (s.unbindHead h st).sched = s.sched := by
  unfold State.unbindHead
  simp
@[simp] theorem State.unbindHead_gen (h : Fin 8) (st : HeadState) (s : State) : (s.unbindHead h st).gen = s.gen := by
  unfold State.unbindHead
  simp
@[simp] theorem State.unbindHead_cell (h : Fin 8) (st : HeadState) (s : State) :
    (s.unbindHead h st).cell = s.cell := by
  unfold State.unbindHead
  simp
@[simp] theorem State.unbindHead_cellLink (h : Fin 8) (st : HeadState) (s : State) :
    (s.unbindHead h st).cellLink = s.cellLink := by
  unfold State.unbindHead
  simp
@[simp] theorem State.unbindHead_inspLink (h : Fin 8) (st : HeadState) (s : State) :
    (s.unbindHead h st).inspLink = s.inspLink := by
  unfold State.unbindHead
  simp
@[simp] theorem State.unbindHead_port (h : Fin 8) (st : HeadState) (s : State) :
    (s.unbindHead h st).port = s.port := by
  unfold State.unbindHead
  simp
@[simp] theorem State.unbindHead_txSince (h : Fin 8) (st : HeadState) (s : State) :
    (s.unbindHead h st).txSince = s.txSince := by
  unfold State.unbindHead
  simp
@[simp] theorem State.unbindHead_events (h : Fin 8) (st : HeadState) (s : State) :
    (s.unbindHead h st).events = s.events := by
  unfold State.unbindHead
  simp
@[simp] theorem State.unbindHead_config (h : Fin 8) (st : HeadState) (s : State) :
    (s.unbindHead h st).config = s.config := by
  unfold State.unbindHead
  simp
@[simp] theorem State.unbindHead_driven (h : Fin 8) (st : HeadState) (s : State) :
    (s.unbindHead h st).driven = s.driven := by
  unfold State.unbindHead
  simp

/-! ### `State.clampOpens` -/

@[simp] theorem State.clampOpens_pending (h : Fin 8) (s : State) : (s.clampOpens h).pending = s.pending := by
  unfold State.clampOpens; repeat' split
  all_goals simp
@[simp] theorem State.clampOpens_phase (h : Fin 8) (s : State) : (s.clampOpens h).phase = s.phase := by
  unfold State.clampOpens; repeat' split
  all_goals simp
@[simp] theorem State.clampOpens_now (h : Fin 8) (s : State) : (s.clampOpens h).now = s.now := by
  unfold State.clampOpens; repeat' split
  all_goals simp
@[simp] theorem State.clampOpens_profiles (h : Fin 8) (s : State) : (s.clampOpens h).profiles = s.profiles := by
  unfold State.clampOpens; repeat' split
  all_goals simp
@[simp] theorem State.clampOpens_cell (h : Fin 8) (s : State) : (s.clampOpens h).cell = s.cell := by
  unfold State.clampOpens; repeat' split
  all_goals simp
@[simp] theorem State.clampOpens_cellLink (h : Fin 8) (s : State) : (s.clampOpens h).cellLink = s.cellLink := by
  unfold State.clampOpens; repeat' split
  all_goals simp
@[simp] theorem State.clampOpens_inspLink (h : Fin 8) (s : State) : (s.clampOpens h).inspLink = s.inspLink := by
  unfold State.clampOpens; repeat' split
  all_goals simp
@[simp] theorem State.clampOpens_port (h : Fin 8) (s : State) : (s.clampOpens h).port = s.port := by
  unfold State.clampOpens; repeat' split
  all_goals simp
@[simp] theorem State.clampOpens_txSince (h : Fin 8) (s : State) : (s.clampOpens h).txSince = s.txSince := by
  unfold State.clampOpens; repeat' split
  all_goals simp
@[simp] theorem State.clampOpens_config (h : Fin 8) (s : State) : (s.clampOpens h).config = s.config := by
  unfold State.clampOpens; repeat' split
  all_goals simp

/-! ### `State.faultJoint` -/

@[simp] theorem State.faultJoint_pending (h : Fin 8) (c : FaultCause) (s : State) :
    (s.faultJoint h c).pending = s.pending := by
  unfold State.faultJoint; repeat' split
  all_goals simp
@[simp] theorem State.faultJoint_phase (h : Fin 8) (c : FaultCause) (s : State) :
    (s.faultJoint h c).phase = s.phase := by
  unfold State.faultJoint; repeat' split
  all_goals simp
@[simp] theorem State.faultJoint_now (h : Fin 8) (c : FaultCause) (s : State) : (s.faultJoint h c).now = s.now := by
  unfold State.faultJoint; repeat' split
  all_goals simp
@[simp] theorem State.faultJoint_profiles (h : Fin 8) (c : FaultCause) (s : State) :
    (s.faultJoint h c).profiles = s.profiles := by
  unfold State.faultJoint; repeat' split
  all_goals simp
@[simp] theorem State.faultJoint_heads (h : Fin 8) (c : FaultCause) (s : State) :
    (s.faultJoint h c).heads = s.heads := by
  unfold State.faultJoint; repeat' split
  all_goals simp
@[simp] theorem State.faultJoint_power (h : Fin 8) (c : FaultCause) (s : State) :
    (s.faultJoint h c).power = s.power := by
  unfold State.faultJoint; repeat' split
  all_goals simp
@[simp] theorem State.faultJoint_sched (h : Fin 8) (c : FaultCause) (s : State) :
    (s.faultJoint h c).sched = s.sched := by
  unfold State.faultJoint; repeat' split
  all_goals simp
@[simp] theorem State.faultJoint_gen (h : Fin 8) (c : FaultCause) (s : State) : (s.faultJoint h c).gen = s.gen := by
  unfold State.faultJoint; repeat' split
  all_goals simp
@[simp] theorem State.faultJoint_cell (h : Fin 8) (c : FaultCause) (s : State) :
    (s.faultJoint h c).cell = s.cell := by
  unfold State.faultJoint; repeat' split
  all_goals simp
@[simp] theorem State.faultJoint_cellLink (h : Fin 8) (c : FaultCause) (s : State) :
    (s.faultJoint h c).cellLink = s.cellLink := by
  unfold State.faultJoint; repeat' split
  all_goals simp
@[simp] theorem State.faultJoint_inspLink (h : Fin 8) (c : FaultCause) (s : State) :
    (s.faultJoint h c).inspLink = s.inspLink := by
  unfold State.faultJoint; repeat' split
  all_goals simp
@[simp] theorem State.faultJoint_port (h : Fin 8) (c : FaultCause) (s : State) :
    (s.faultJoint h c).port = s.port := by
  unfold State.faultJoint; repeat' split
  all_goals simp
@[simp] theorem State.faultJoint_txSince (h : Fin 8) (c : FaultCause) (s : State) :
    (s.faultJoint h c).txSince = s.txSince := by
  unfold State.faultJoint; repeat' split
  all_goals simp
@[simp] theorem State.faultJoint_config (h : Fin 8) (c : FaultCause) (s : State) :
    (s.faultJoint h c).config = s.config := by
  unfold State.faultJoint; repeat' split
  all_goals simp
@[simp] theorem State.faultJoint_driven (h : Fin 8) (c : FaultCause) (s : State) :
    (s.faultJoint h c).driven = s.driven := by
  unfold State.faultJoint; repeat' split
  all_goals simp

/-! ### `State.headFault` -/

@[simp] theorem State.headFault_pending (h : Fin 8) (c : FaultCause) (s : State) :
    (s.headFault h c).pending = s.pending := by
  unfold State.headFault; repeat' split
  all_goals simp
@[simp] theorem State.headFault_phase (h : Fin 8) (c : FaultCause) (s : State) :
    (s.headFault h c).phase = s.phase := by
  unfold State.headFault; repeat' split
  all_goals simp
@[simp] theorem State.headFault_now (h : Fin 8) (c : FaultCause) (s : State) : (s.headFault h c).now = s.now := by
  unfold State.headFault; repeat' split
  all_goals simp
@[simp] theorem State.headFault_profiles (h : Fin 8) (c : FaultCause) (s : State) :
    (s.headFault h c).profiles = s.profiles := by
  unfold State.headFault; repeat' split
  all_goals simp
@[simp] theorem State.headFault_cell (h : Fin 8) (c : FaultCause) (s : State) : (s.headFault h c).cell = s.cell := by
  unfold State.headFault; repeat' split
  all_goals simp
@[simp] theorem State.headFault_cellLink (h : Fin 8) (c : FaultCause) (s : State) :
    (s.headFault h c).cellLink = s.cellLink := by
  unfold State.headFault; repeat' split
  all_goals simp
@[simp] theorem State.headFault_inspLink (h : Fin 8) (c : FaultCause) (s : State) :
    (s.headFault h c).inspLink = s.inspLink := by
  unfold State.headFault; repeat' split
  all_goals simp
@[simp] theorem State.headFault_port (h : Fin 8) (c : FaultCause) (s : State) : (s.headFault h c).port = s.port := by
  unfold State.headFault; repeat' split
  all_goals simp
@[simp] theorem State.headFault_txSince (h : Fin 8) (c : FaultCause) (s : State) : (s.headFault h c).txSince = s.txSince := by
  unfold State.headFault; repeat' split
  all_goals simp
@[simp] theorem State.headFault_config (h : Fin 8) (c : FaultCause) (s : State) :
    (s.headFault h c).config = s.config := by
  unfold State.headFault; repeat' split
  all_goals simp

/-! ### `State.enterCool` -/

@[simp] theorem State.enterCool_pending (h : Fin 8) (coolTime : Nat) (s : State) :
    (s.enterCool h coolTime).pending = s.pending := by
  unfold State.enterCool
  simp
@[simp] theorem State.enterCool_phase (h : Fin 8) (coolTime : Nat) (s : State) :
    (s.enterCool h coolTime).phase = s.phase := by
  unfold State.enterCool
  simp
@[simp] theorem State.enterCool_now (h : Fin 8) (coolTime : Nat) (s : State) :
    (s.enterCool h coolTime).now = s.now := by
  unfold State.enterCool
  simp
@[simp] theorem State.enterCool_profiles (h : Fin 8) (coolTime : Nat) (s : State) :
    (s.enterCool h coolTime).profiles = s.profiles := by
  unfold State.enterCool
  simp
@[simp] theorem State.enterCool_cell (h : Fin 8) (coolTime : Nat) (s : State) :
    (s.enterCool h coolTime).cell = s.cell := by
  unfold State.enterCool
  simp
@[simp] theorem State.enterCool_cellLink (h : Fin 8) (coolTime : Nat) (s : State) :
    (s.enterCool h coolTime).cellLink = s.cellLink := by
  unfold State.enterCool
  simp
@[simp] theorem State.enterCool_inspLink (h : Fin 8) (coolTime : Nat) (s : State) :
    (s.enterCool h coolTime).inspLink = s.inspLink := by
  unfold State.enterCool
  simp
@[simp] theorem State.enterCool_port (h : Fin 8) (coolTime : Nat) (s : State) :
    (s.enterCool h coolTime).port = s.port := by
  unfold State.enterCool
  simp
@[simp] theorem State.enterCool_txSince (h : Fin 8) (coolTime : Nat) (s : State) :
    (s.enterCool h coolTime).txSince = s.txSince := by
  unfold State.enterCool
  simp
@[simp] theorem State.enterCool_config (h : Fin 8) (coolTime : Nat) (s : State) :
    (s.enterCool h coolTime).config = s.config := by
  unfold State.enterCool
  simp

/-! ### `State.startHeating` -/

@[simp] theorem State.startHeating_pending (h : Fin 8) (target : Nat) (s : State) :
    (s.startHeating h target).pending = s.pending := by
  unfold State.startHeating
  simp
@[simp] theorem State.startHeating_phase (h : Fin 8) (target : Nat) (s : State) :
    (s.startHeating h target).phase = s.phase := by
  unfold State.startHeating
  simp
@[simp] theorem State.startHeating_now (h : Fin 8) (target : Nat) (s : State) :
    (s.startHeating h target).now = s.now := by
  unfold State.startHeating
  simp
@[simp] theorem State.startHeating_profiles (h : Fin 8) (target : Nat) (s : State) :
    (s.startHeating h target).profiles = s.profiles := by
  unfold State.startHeating
  simp
@[simp] theorem State.startHeating_sched (h : Fin 8) (target : Nat) (s : State) :
    (s.startHeating h target).sched = s.sched := by
  unfold State.startHeating
  simp
@[simp] theorem State.startHeating_gen (h : Fin 8) (target : Nat) (s : State) :
    (s.startHeating h target).gen = s.gen := by
  unfold State.startHeating
  simp
@[simp] theorem State.startHeating_cell (h : Fin 8) (target : Nat) (s : State) :
    (s.startHeating h target).cell = s.cell := by
  unfold State.startHeating
  simp
@[simp] theorem State.startHeating_cellLink (h : Fin 8) (target : Nat) (s : State) :
    (s.startHeating h target).cellLink = s.cellLink := by
  unfold State.startHeating
  simp
@[simp] theorem State.startHeating_inspLink (h : Fin 8) (target : Nat) (s : State) :
    (s.startHeating h target).inspLink = s.inspLink := by
  unfold State.startHeating
  simp
@[simp] theorem State.startHeating_port (h : Fin 8) (target : Nat) (s : State) :
    (s.startHeating h target).port = s.port := by
  unfold State.startHeating
  simp
@[simp] theorem State.startHeating_txSince (h : Fin 8) (target : Nat) (s : State) :
    (s.startHeating h target).txSince = s.txSince := by
  unfold State.startHeating
  simp
@[simp] theorem State.startHeating_events (h : Fin 8) (target : Nat) (s : State) :
    (s.startHeating h target).events = s.events := by
  unfold State.startHeating
  simp
@[simp] theorem State.startHeating_config (h : Fin 8) (target : Nat) (s : State) :
    (s.startHeating h target).config = s.config := by
  unfold State.startHeating
  simp
@[simp] theorem State.startHeating_driven (h : Fin 8) (target : Nat) (s : State) :
    (s.startHeating h target).driven = s.driven := by
  unfold State.startHeating
  simp

/-! ### `State.testStart` -/

@[simp] theorem State.testStart_pending (h : Fin 8) (s : State) : (s.testStart h).pending = s.pending := by
  unfold State.testStart; repeat' split
  all_goals simp
@[simp] theorem State.testStart_phase (h : Fin 8) (s : State) : (s.testStart h).phase = s.phase := by
  unfold State.testStart; repeat' split
  all_goals simp
@[simp] theorem State.testStart_now (h : Fin 8) (s : State) : (s.testStart h).now = s.now := by
  unfold State.testStart; repeat' split
  all_goals simp
@[simp] theorem State.testStart_profiles (h : Fin 8) (s : State) : (s.testStart h).profiles = s.profiles := by
  unfold State.testStart; repeat' split
  all_goals simp
@[simp] theorem State.testStart_sched (h : Fin 8) (s : State) : (s.testStart h).sched = s.sched := by
  unfold State.testStart; repeat' split
  all_goals simp
@[simp] theorem State.testStart_gen (h : Fin 8) (s : State) : (s.testStart h).gen = s.gen := by
  unfold State.testStart; repeat' split
  all_goals simp
@[simp] theorem State.testStart_cell (h : Fin 8) (s : State) : (s.testStart h).cell = s.cell := by
  unfold State.testStart; repeat' split
  all_goals simp
@[simp] theorem State.testStart_cellLink (h : Fin 8) (s : State) : (s.testStart h).cellLink = s.cellLink := by
  unfold State.testStart; repeat' split
  all_goals simp
@[simp] theorem State.testStart_inspLink (h : Fin 8) (s : State) : (s.testStart h).inspLink = s.inspLink := by
  unfold State.testStart; repeat' split
  all_goals simp
@[simp] theorem State.testStart_port (h : Fin 8) (s : State) : (s.testStart h).port = s.port := by
  unfold State.testStart; repeat' split
  all_goals simp
@[simp] theorem State.testStart_txSince (h : Fin 8) (s : State) : (s.testStart h).txSince = s.txSince := by
  unfold State.testStart; repeat' split
  all_goals simp
@[simp] theorem State.testStart_events (h : Fin 8) (s : State) : (s.testStart h).events = s.events := by
  unfold State.testStart; repeat' split
  all_goals simp
@[simp] theorem State.testStart_config (h : Fin 8) (s : State) : (s.testStart h).config = s.config := by
  unfold State.testStart; repeat' split
  all_goals simp
@[simp] theorem State.testStart_driven (h : Fin 8) (s : State) : (s.testStart h).driven = s.driven := by
  unfold State.testStart; repeat' split
  all_goals simp

/-! ### `State.applySwitch` -/

@[simp] theorem State.applySwitch_pending (s : State) : (s.applySwitch).pending = s.pending := by
  unfold State.applySwitch; repeat' split
  all_goals simp
@[simp] theorem State.applySwitch_phase (s : State) : (s.applySwitch).phase = s.phase := by
  unfold State.applySwitch; repeat' split
  all_goals simp
@[simp] theorem State.applySwitch_now (s : State) : (s.applySwitch).now = s.now := by
  unfold State.applySwitch; repeat' split
  all_goals simp
@[simp] theorem State.applySwitch_table (s : State) : (s.applySwitch).table = s.table := by
  unfold State.applySwitch; repeat' split
  all_goals simp
@[simp] theorem State.applySwitch_profiles (s : State) : (s.applySwitch).profiles = s.profiles := by
  unfold State.applySwitch; repeat' split
  all_goals simp
@[simp] theorem State.applySwitch_heads (s : State) : (s.applySwitch).heads = s.heads := by
  unfold State.applySwitch; repeat' split
  all_goals simp
@[simp] theorem State.applySwitch_power (s : State) : (s.applySwitch).power = s.power := by
  unfold State.applySwitch; repeat' split
  all_goals simp
@[simp] theorem State.applySwitch_gen (s : State) : (s.applySwitch).gen = s.gen := by
  unfold State.applySwitch; repeat' split
  all_goals simp
@[simp] theorem State.applySwitch_cell (s : State) : (s.applySwitch).cell = s.cell := by
  unfold State.applySwitch; repeat' split
  all_goals simp
@[simp] theorem State.applySwitch_cellLink (s : State) : (s.applySwitch).cellLink = s.cellLink := by
  unfold State.applySwitch; repeat' split
  all_goals simp
@[simp] theorem State.applySwitch_inspLink (s : State) : (s.applySwitch).inspLink = s.inspLink := by
  unfold State.applySwitch; repeat' split
  all_goals simp
@[simp] theorem State.applySwitch_port (s : State) : (s.applySwitch).port = s.port := by
  unfold State.applySwitch; repeat' split
  all_goals simp
@[simp] theorem State.applySwitch_txSince (s : State) : (s.applySwitch).txSince = s.txSince := by
  unfold State.applySwitch; repeat' split
  all_goals simp
@[simp] theorem State.applySwitch_config (s : State) : (s.applySwitch).config = s.config := by
  unfold State.applySwitch; repeat' split
  all_goals simp
@[simp] theorem State.applySwitch_driven (s : State) : (s.applySwitch).driven = s.driven := by
  unfold State.applySwitch; repeat' split
  all_goals simp

/-! ### `State.stopScheduler` -/

@[simp] theorem State.stopScheduler_pending (s : State) : (s.stopScheduler).pending = s.pending := by
  unfold State.stopScheduler
  simp
@[simp] theorem State.stopScheduler_phase (s : State) : (s.stopScheduler).phase = s.phase := by
  unfold State.stopScheduler
  simp
@[simp] theorem State.stopScheduler_now (s : State) : (s.stopScheduler).now = s.now := by
  unfold State.stopScheduler
  simp
@[simp] theorem State.stopScheduler_profiles (s : State) : (s.stopScheduler).profiles = s.profiles := by
  unfold State.stopScheduler
  simp
@[simp] theorem State.stopScheduler_heads (s : State) : (s.stopScheduler).heads = s.heads := by
  unfold State.stopScheduler
  simp
@[simp] theorem State.stopScheduler_cell (s : State) : (s.stopScheduler).cell = s.cell := by
  unfold State.stopScheduler
  simp
@[simp] theorem State.stopScheduler_cellLink (s : State) : (s.stopScheduler).cellLink = s.cellLink := by
  unfold State.stopScheduler
  simp
@[simp] theorem State.stopScheduler_inspLink (s : State) : (s.stopScheduler).inspLink = s.inspLink := by
  unfold State.stopScheduler
  simp
@[simp] theorem State.stopScheduler_port (s : State) : (s.stopScheduler).port = s.port := by
  unfold State.stopScheduler
  simp
@[simp] theorem State.stopScheduler_txSince (s : State) : (s.stopScheduler).txSince = s.txSince := by
  unfold State.stopScheduler
  simp
@[simp] theorem State.stopScheduler_config (s : State) : (s.stopScheduler).config = s.config := by
  unfold State.stopScheduler
  simp

/-! ### `State.testRecovery` -/

@[simp] theorem State.testRecovery_pending (s : State) : (s.testRecovery).pending = s.pending := by
  unfold State.testRecovery; repeat' split
  all_goals simp
@[simp] theorem State.testRecovery_phase (s : State) : (s.testRecovery).phase = s.phase := by
  unfold State.testRecovery; repeat' split
  all_goals simp
@[simp] theorem State.testRecovery_now (s : State) : (s.testRecovery).now = s.now := by
  unfold State.testRecovery; repeat' split
  all_goals simp
@[simp] theorem State.testRecovery_table (s : State) : (s.testRecovery).table = s.table := by
  unfold State.testRecovery; repeat' split
  all_goals simp
@[simp] theorem State.testRecovery_profiles (s : State) : (s.testRecovery).profiles = s.profiles := by
  unfold State.testRecovery; repeat' split
  all_goals simp
@[simp] theorem State.testRecovery_heads (s : State) : (s.testRecovery).heads = s.heads := by
  unfold State.testRecovery; repeat' split
  all_goals simp
@[simp] theorem State.testRecovery_power (s : State) : (s.testRecovery).power = s.power := by
  unfold State.testRecovery; repeat' split
  all_goals simp
@[simp] theorem State.testRecovery_sched (s : State) : (s.testRecovery).sched = s.sched := by
  unfold State.testRecovery; repeat' split
  all_goals simp
@[simp] theorem State.testRecovery_gen (s : State) : (s.testRecovery).gen = s.gen := by
  unfold State.testRecovery; repeat' split
  all_goals simp
@[simp] theorem State.testRecovery_cellLink (s : State) : (s.testRecovery).cellLink = s.cellLink := by
  unfold State.testRecovery; repeat' split
  all_goals simp
@[simp] theorem State.testRecovery_inspLink (s : State) : (s.testRecovery).inspLink = s.inspLink := by
  unfold State.testRecovery; repeat' split
  all_goals simp
@[simp] theorem State.testRecovery_port (s : State) : (s.testRecovery).port = s.port := by
  unfold State.testRecovery; repeat' split
  all_goals simp
@[simp] theorem State.testRecovery_txSince (s : State) : (s.testRecovery).txSince = s.txSince := by
  unfold State.testRecovery; repeat' split
  all_goals simp
@[simp] theorem State.testRecovery_config (s : State) : (s.testRecovery).config = s.config := by
  unfold State.testRecovery; repeat' split
  all_goals simp
@[simp] theorem State.testRecovery_driven (s : State) : (s.testRecovery).driven = s.driven := by
  unfold State.testRecovery; repeat' split
  all_goals simp

/-! ### `State.issueSteps` -/

@[simp] theorem State.issueSteps_pending (h : Fin 8) (s : State) : (s.issueSteps h).pending = s.pending := by
  unfold State.issueSteps
  simp
@[simp] theorem State.issueSteps_phase (h : Fin 8) (s : State) : (s.issueSteps h).phase = s.phase := by
  unfold State.issueSteps
  simp
@[simp] theorem State.issueSteps_now (h : Fin 8) (s : State) : (s.issueSteps h).now = s.now := by
  unfold State.issueSteps
  simp
@[simp] theorem State.issueSteps_table (h : Fin 8) (s : State) : (s.issueSteps h).table = s.table := by
  unfold State.issueSteps
  simp
@[simp] theorem State.issueSteps_profiles (h : Fin 8) (s : State) : (s.issueSteps h).profiles = s.profiles := by
  unfold State.issueSteps
  simp
@[simp] theorem State.issueSteps_power (h : Fin 8) (s : State) : (s.issueSteps h).power = s.power := by
  unfold State.issueSteps
  simp
@[simp] theorem State.issueSteps_sched (h : Fin 8) (s : State) : (s.issueSteps h).sched = s.sched := by
  unfold State.issueSteps
  simp
@[simp] theorem State.issueSteps_gen (h : Fin 8) (s : State) : (s.issueSteps h).gen = s.gen := by
  unfold State.issueSteps
  simp
@[simp] theorem State.issueSteps_cell (h : Fin 8) (s : State) : (s.issueSteps h).cell = s.cell := by
  unfold State.issueSteps
  simp
@[simp] theorem State.issueSteps_cellLink (h : Fin 8) (s : State) : (s.issueSteps h).cellLink = s.cellLink := by
  unfold State.issueSteps
  simp
@[simp] theorem State.issueSteps_inspLink (h : Fin 8) (s : State) : (s.issueSteps h).inspLink = s.inspLink := by
  unfold State.issueSteps
  simp
@[simp] theorem State.issueSteps_port (h : Fin 8) (s : State) : (s.issueSteps h).port = s.port := by
  unfold State.issueSteps
  simp
@[simp] theorem State.issueSteps_txSince (h : Fin 8) (s : State) : (s.issueSteps h).txSince = s.txSince := by
  unfold State.issueSteps
  simp
@[simp] theorem State.issueSteps_events (h : Fin 8) (s : State) : (s.issueSteps h).events = s.events := by
  unfold State.issueSteps
  simp
@[simp] theorem State.issueSteps_config (h : Fin 8) (s : State) : (s.issueSteps h).config = s.config := by
  unfold State.issueSteps
  simp

/-! ### `State.takeReading` -/

@[simp] theorem State.takeReading_pending (h : Fin 8) (accepted : Option Nat) (s : State) :
    (s.takeReading h accepted).pending = s.pending := by
  unfold State.takeReading; repeat' split
  all_goals simp
@[simp] theorem State.takeReading_phase (h : Fin 8) (accepted : Option Nat) (s : State) :
    (s.takeReading h accepted).phase = s.phase := by
  unfold State.takeReading; repeat' split
  all_goals simp
@[simp] theorem State.takeReading_now (h : Fin 8) (accepted : Option Nat) (s : State) :
    (s.takeReading h accepted).now = s.now := by
  unfold State.takeReading; repeat' split
  all_goals simp
@[simp] theorem State.takeReading_profiles (h : Fin 8) (accepted : Option Nat) (s : State) :
    (s.takeReading h accepted).profiles = s.profiles := by
  unfold State.takeReading; repeat' split
  all_goals simp
@[simp] theorem State.takeReading_power (h : Fin 8) (accepted : Option Nat) (s : State) :
    (s.takeReading h accepted).power = s.power := by
  unfold State.takeReading; repeat' split
  all_goals simp
@[simp] theorem State.takeReading_sched (h : Fin 8) (accepted : Option Nat) (s : State) :
    (s.takeReading h accepted).sched = s.sched := by
  unfold State.takeReading; repeat' split
  all_goals simp
@[simp] theorem State.takeReading_gen (h : Fin 8) (accepted : Option Nat) (s : State) :
    (s.takeReading h accepted).gen = s.gen := by
  unfold State.takeReading; repeat' split
  all_goals simp
@[simp] theorem State.takeReading_cell (h : Fin 8) (accepted : Option Nat) (s : State) :
    (s.takeReading h accepted).cell = s.cell := by
  unfold State.takeReading; repeat' split
  all_goals simp
@[simp] theorem State.takeReading_cellLink (h : Fin 8) (accepted : Option Nat) (s : State) :
    (s.takeReading h accepted).cellLink = s.cellLink := by
  unfold State.takeReading; repeat' split
  all_goals simp
@[simp] theorem State.takeReading_inspLink (h : Fin 8) (accepted : Option Nat) (s : State) :
    (s.takeReading h accepted).inspLink = s.inspLink := by
  unfold State.takeReading; repeat' split
  all_goals simp
@[simp] theorem State.takeReading_port (h : Fin 8) (accepted : Option Nat) (s : State) :
    (s.takeReading h accepted).port = s.port := by
  unfold State.takeReading; repeat' split
  all_goals simp
@[simp] theorem State.takeReading_txSince (h : Fin 8) (accepted : Option Nat) (s : State) :
    (s.takeReading h accepted).txSince = s.txSince := by
  unfold State.takeReading; repeat' split
  all_goals simp
@[simp] theorem State.takeReading_events (h : Fin 8) (accepted : Option Nat) (s : State) :
    (s.takeReading h accepted).events = s.events := by
  unfold State.takeReading; repeat' split
  all_goals simp
@[simp] theorem State.takeReading_config (h : Fin 8) (accepted : Option Nat) (s : State) :
    (s.takeReading h accepted).config = s.config := by
  unfold State.takeReading; repeat' split
  all_goals simp
@[simp] theorem State.takeReading_driven (h : Fin 8) (accepted : Option Nat) (s : State) :
    (s.takeReading h accepted).driven = s.driven := by
  unfold State.takeReading; repeat' split
  all_goals simp

/-! ### `State.sampleClamp` -/

@[simp] theorem State.sampleClamp_pending (h : Fin 8) (high : Bool) (s : State) :
    (s.sampleClamp h high).pending = s.pending := by
  unfold State.sampleClamp; dsimp only; repeat' split
  all_goals simp
@[simp] theorem State.sampleClamp_phase (h : Fin 8) (high : Bool) (s : State) :
    (s.sampleClamp h high).phase = s.phase := by
  unfold State.sampleClamp; dsimp only; repeat' split
  all_goals simp
@[simp] theorem State.sampleClamp_now (h : Fin 8) (high : Bool) (s : State) : (s.sampleClamp h high).now = s.now := by
  unfold State.sampleClamp; dsimp only; repeat' split
  all_goals simp
@[simp] theorem State.sampleClamp_profiles (h : Fin 8) (high : Bool) (s : State) :
    (s.sampleClamp h high).profiles = s.profiles := by
  unfold State.sampleClamp; dsimp only; repeat' split
  all_goals simp
@[simp] theorem State.sampleClamp_cell (h : Fin 8) (high : Bool) (s : State) :
    (s.sampleClamp h high).cell = s.cell := by
  unfold State.sampleClamp; dsimp only; repeat' split
  all_goals simp
@[simp] theorem State.sampleClamp_cellLink (h : Fin 8) (high : Bool) (s : State) :
    (s.sampleClamp h high).cellLink = s.cellLink := by
  unfold State.sampleClamp; dsimp only; repeat' split
  all_goals simp
@[simp] theorem State.sampleClamp_inspLink (h : Fin 8) (high : Bool) (s : State) :
    (s.sampleClamp h high).inspLink = s.inspLink := by
  unfold State.sampleClamp; dsimp only; repeat' split
  all_goals simp
@[simp] theorem State.sampleClamp_port (h : Fin 8) (high : Bool) (s : State) :
    (s.sampleClamp h high).port = s.port := by
  unfold State.sampleClamp; dsimp only; repeat' split
  all_goals simp
@[simp] theorem State.sampleClamp_txSince (h : Fin 8) (high : Bool) (s : State) :
    (s.sampleClamp h high).txSince = s.txSince := by
  unfold State.sampleClamp; dsimp only; repeat' split
  all_goals simp
@[simp] theorem State.sampleClamp_config (h : Fin 8) (high : Bool) (s : State) :
    (s.sampleClamp h high).config = s.config := by
  unfold State.sampleClamp; dsimp only; repeat' split
  all_goals simp

/-! ### `State.endSoak` -/

@[simp] theorem State.endSoak_pending (h : Fin 8) (p : ProfileFields) (s : State) :
    (s.endSoak h p).pending = s.pending := by
  unfold State.endSoak; repeat' split
  all_goals simp
@[simp] theorem State.endSoak_phase (h : Fin 8) (p : ProfileFields) (s : State) :
    (s.endSoak h p).phase = s.phase := by
  unfold State.endSoak; repeat' split
  all_goals simp
@[simp] theorem State.endSoak_now (h : Fin 8) (p : ProfileFields) (s : State) : (s.endSoak h p).now = s.now := by
  unfold State.endSoak; repeat' split
  all_goals simp
@[simp] theorem State.endSoak_profiles (h : Fin 8) (p : ProfileFields) (s : State) :
    (s.endSoak h p).profiles = s.profiles := by
  unfold State.endSoak; repeat' split
  all_goals simp
@[simp] theorem State.endSoak_cell (h : Fin 8) (p : ProfileFields) (s : State) : (s.endSoak h p).cell = s.cell := by
  unfold State.endSoak; repeat' split
  all_goals simp
@[simp] theorem State.endSoak_cellLink (h : Fin 8) (p : ProfileFields) (s : State) :
    (s.endSoak h p).cellLink = s.cellLink := by
  unfold State.endSoak; repeat' split
  all_goals simp
@[simp] theorem State.endSoak_inspLink (h : Fin 8) (p : ProfileFields) (s : State) :
    (s.endSoak h p).inspLink = s.inspLink := by
  unfold State.endSoak; repeat' split
  all_goals simp
@[simp] theorem State.endSoak_port (h : Fin 8) (p : ProfileFields) (s : State) : (s.endSoak h p).port = s.port := by
  unfold State.endSoak; repeat' split
  all_goals simp
@[simp] theorem State.endSoak_txSince (h : Fin 8) (p : ProfileFields) (s : State) : (s.endSoak h p).txSince = s.txSince := by
  unfold State.endSoak; repeat' split
  all_goals simp
@[simp] theorem State.endSoak_config (h : Fin 8) (p : ProfileFields) (s : State) :
    (s.endSoak h p).config = s.config := by
  unfold State.endSoak; repeat' split
  all_goals simp

/-! ### `State.enterSoak` -/

@[simp] theorem State.enterSoak_pending (h : Fin 8) (p : ProfileFields) (s : State) :
    (s.enterSoak h p).pending = s.pending := by
  unfold State.enterSoak; repeat' split
  all_goals simp
@[simp] theorem State.enterSoak_phase (h : Fin 8) (p : ProfileFields) (s : State) :
    (s.enterSoak h p).phase = s.phase := by
  unfold State.enterSoak; repeat' split
  all_goals simp
@[simp] theorem State.enterSoak_now (h : Fin 8) (p : ProfileFields) (s : State) : (s.enterSoak h p).now = s.now := by
  unfold State.enterSoak; repeat' split
  all_goals simp
@[simp] theorem State.enterSoak_profiles (h : Fin 8) (p : ProfileFields) (s : State) :
    (s.enterSoak h p).profiles = s.profiles := by
  unfold State.enterSoak; repeat' split
  all_goals simp
@[simp] theorem State.enterSoak_cell (h : Fin 8) (p : ProfileFields) (s : State) :
    (s.enterSoak h p).cell = s.cell := by
  unfold State.enterSoak; repeat' split
  all_goals simp
@[simp] theorem State.enterSoak_cellLink (h : Fin 8) (p : ProfileFields) (s : State) :
    (s.enterSoak h p).cellLink = s.cellLink := by
  unfold State.enterSoak; repeat' split
  all_goals simp
@[simp] theorem State.enterSoak_inspLink (h : Fin 8) (p : ProfileFields) (s : State) :
    (s.enterSoak h p).inspLink = s.inspLink := by
  unfold State.enterSoak; repeat' split
  all_goals simp
@[simp] theorem State.enterSoak_port (h : Fin 8) (p : ProfileFields) (s : State) :
    (s.enterSoak h p).port = s.port := by
  unfold State.enterSoak; repeat' split
  all_goals simp
@[simp] theorem State.enterSoak_txSince (h : Fin 8) (p : ProfileFields) (s : State) :
    (s.enterSoak h p).txSince = s.txSince := by
  unfold State.enterSoak; repeat' split
  all_goals simp
@[simp] theorem State.enterSoak_config (h : Fin 8) (p : ProfileFields) (s : State) :
    (s.enterSoak h p).config = s.config := by
  unfold State.enterSoak; repeat' split
  all_goals simp

/-! ### `State.rampStep` -/

@[simp] theorem State.rampStep_pending (h : Fin 8) (p : ProfileFields) (j : Joint) (s : State) :
    (s.rampStep h p j).pending = s.pending := by
  unfold State.rampStep; dsimp only; repeat' split
  all_goals simp
@[simp] theorem State.rampStep_phase (h : Fin 8) (p : ProfileFields) (j : Joint) (s : State) :
    (s.rampStep h p j).phase = s.phase := by
  unfold State.rampStep; dsimp only; repeat' split
  all_goals simp
@[simp] theorem State.rampStep_now (h : Fin 8) (p : ProfileFields) (j : Joint) (s : State) :
    (s.rampStep h p j).now = s.now := by
  unfold State.rampStep; dsimp only; repeat' split
  all_goals simp
@[simp] theorem State.rampStep_profiles (h : Fin 8) (p : ProfileFields) (j : Joint) (s : State) :
    (s.rampStep h p j).profiles = s.profiles := by
  unfold State.rampStep; dsimp only; repeat' split
  all_goals simp
@[simp] theorem State.rampStep_cell (h : Fin 8) (p : ProfileFields) (j : Joint) (s : State) :
    (s.rampStep h p j).cell = s.cell := by
  unfold State.rampStep; dsimp only; repeat' split
  all_goals simp
@[simp] theorem State.rampStep_cellLink (h : Fin 8) (p : ProfileFields) (j : Joint) (s : State) :
    (s.rampStep h p j).cellLink = s.cellLink := by
  unfold State.rampStep; dsimp only; repeat' split
  all_goals simp
@[simp] theorem State.rampStep_inspLink (h : Fin 8) (p : ProfileFields) (j : Joint) (s : State) :
    (s.rampStep h p j).inspLink = s.inspLink := by
  unfold State.rampStep; dsimp only; repeat' split
  all_goals simp
@[simp] theorem State.rampStep_port (h : Fin 8) (p : ProfileFields) (j : Joint) (s : State) :
    (s.rampStep h p j).port = s.port := by
  unfold State.rampStep; dsimp only; repeat' split
  all_goals simp
@[simp] theorem State.rampStep_txSince (h : Fin 8) (p : ProfileFields) (j : Joint) (s : State) :
    (s.rampStep h p j).txSince = s.txSince := by
  unfold State.rampStep; dsimp only; repeat' split
  all_goals simp
@[simp] theorem State.rampStep_config (h : Fin 8) (p : ProfileFields) (j : Joint) (s : State) :
    (s.rampStep h p j).config = s.config := by
  unfold State.rampStep; dsimp only; repeat' split
  all_goals simp

/-! ### `State.soakStep` -/

@[simp] theorem State.soakStep_pending (h : Fin 8) (p : ProfileFields) (j : Joint) (s : State) :
    (s.soakStep h p j).pending = s.pending := by
  unfold State.soakStep; dsimp only; repeat' split
  all_goals simp
@[simp] theorem State.soakStep_phase (h : Fin 8) (p : ProfileFields) (j : Joint) (s : State) :
    (s.soakStep h p j).phase = s.phase := by
  unfold State.soakStep; dsimp only; repeat' split
  all_goals simp
@[simp] theorem State.soakStep_now (h : Fin 8) (p : ProfileFields) (j : Joint) (s : State) :
    (s.soakStep h p j).now = s.now := by
  unfold State.soakStep; dsimp only; repeat' split
  all_goals simp
@[simp] theorem State.soakStep_profiles (h : Fin 8) (p : ProfileFields) (j : Joint) (s : State) :
    (s.soakStep h p j).profiles = s.profiles := by
  unfold State.soakStep; dsimp only; repeat' split
  all_goals simp
@[simp] theorem State.soakStep_cell (h : Fin 8) (p : ProfileFields) (j : Joint) (s : State) :
    (s.soakStep h p j).cell = s.cell := by
  unfold State.soakStep; dsimp only; repeat' split
  all_goals simp
@[simp] theorem State.soakStep_cellLink (h : Fin 8) (p : ProfileFields) (j : Joint) (s : State) :
    (s.soakStep h p j).cellLink = s.cellLink := by
  unfold State.soakStep; dsimp only; repeat' split
  all_goals simp
@[simp] theorem State.soakStep_inspLink (h : Fin 8) (p : ProfileFields) (j : Joint) (s : State) :
    (s.soakStep h p j).inspLink = s.inspLink := by
  unfold State.soakStep; dsimp only; repeat' split
  all_goals simp
@[simp] theorem State.soakStep_port (h : Fin 8) (p : ProfileFields) (j : Joint) (s : State) :
    (s.soakStep h p j).port = s.port := by
  unfold State.soakStep; dsimp only; repeat' split
  all_goals simp
@[simp] theorem State.soakStep_txSince (h : Fin 8) (p : ProfileFields) (j : Joint) (s : State) :
    (s.soakStep h p j).txSince = s.txSince := by
  unfold State.soakStep; dsimp only; repeat' split
  all_goals simp
@[simp] theorem State.soakStep_config (h : Fin 8) (p : ProfileFields) (j : Joint) (s : State) :
    (s.soakStep h p j).config = s.config := by
  unfold State.soakStep; dsimp only; repeat' split
  all_goals simp

/-! ### `State.feedStep` -/

@[simp] theorem State.feedStep_pending (h : Fin 8) (p : ProfileFields) (j : Joint) (s : State) :
    (s.feedStep h p j).pending = s.pending := by
  unfold State.feedStep; dsimp only; repeat' split
  all_goals simp
@[simp] theorem State.feedStep_phase (h : Fin 8) (p : ProfileFields) (j : Joint) (s : State) :
    (s.feedStep h p j).phase = s.phase := by
  unfold State.feedStep; dsimp only; repeat' split
  all_goals simp
@[simp] theorem State.feedStep_now (h : Fin 8) (p : ProfileFields) (j : Joint) (s : State) :
    (s.feedStep h p j).now = s.now := by
  unfold State.feedStep; dsimp only; repeat' split
  all_goals simp
@[simp] theorem State.feedStep_profiles (h : Fin 8) (p : ProfileFields) (j : Joint) (s : State) :
    (s.feedStep h p j).profiles = s.profiles := by
  unfold State.feedStep; dsimp only; repeat' split
  all_goals simp
@[simp] theorem State.feedStep_cell (h : Fin 8) (p : ProfileFields) (j : Joint) (s : State) :
    (s.feedStep h p j).cell = s.cell := by
  unfold State.feedStep; dsimp only; repeat' split
  all_goals simp
@[simp] theorem State.feedStep_cellLink (h : Fin 8) (p : ProfileFields) (j : Joint) (s : State) :
    (s.feedStep h p j).cellLink = s.cellLink := by
  unfold State.feedStep; dsimp only; repeat' split
  all_goals simp
@[simp] theorem State.feedStep_inspLink (h : Fin 8) (p : ProfileFields) (j : Joint) (s : State) :
    (s.feedStep h p j).inspLink = s.inspLink := by
  unfold State.feedStep; dsimp only; repeat' split
  all_goals simp
@[simp] theorem State.feedStep_port (h : Fin 8) (p : ProfileFields) (j : Joint) (s : State) :
    (s.feedStep h p j).port = s.port := by
  unfold State.feedStep; dsimp only; repeat' split
  all_goals simp
@[simp] theorem State.feedStep_txSince (h : Fin 8) (p : ProfileFields) (j : Joint) (s : State) :
    (s.feedStep h p j).txSince = s.txSince := by
  unfold State.feedStep; dsimp only; repeat' split
  all_goals simp
@[simp] theorem State.feedStep_config (h : Fin 8) (p : ProfileFields) (j : Joint) (s : State) :
    (s.feedStep h p j).config = s.config := by
  unfold State.feedStep; dsimp only; repeat' split
  all_goals simp

/-! ### `State.phaseStep` -/

@[simp] theorem State.phaseStep_pending (h : Fin 8) (p : ProfileFields) (j : Joint) (s : State) :
    (s.phaseStep h p j).pending = s.pending := by
  unfold State.phaseStep; repeat' split
  all_goals simp
@[simp] theorem State.phaseStep_phase (h : Fin 8) (p : ProfileFields) (j : Joint) (s : State) :
    (s.phaseStep h p j).phase = s.phase := by
  unfold State.phaseStep; repeat' split
  all_goals simp
@[simp] theorem State.phaseStep_now (h : Fin 8) (p : ProfileFields) (j : Joint) (s : State) :
    (s.phaseStep h p j).now = s.now := by
  unfold State.phaseStep; repeat' split
  all_goals simp
@[simp] theorem State.phaseStep_profiles (h : Fin 8) (p : ProfileFields) (j : Joint) (s : State) :
    (s.phaseStep h p j).profiles = s.profiles := by
  unfold State.phaseStep; repeat' split
  all_goals simp
@[simp] theorem State.phaseStep_cell (h : Fin 8) (p : ProfileFields) (j : Joint) (s : State) :
    (s.phaseStep h p j).cell = s.cell := by
  unfold State.phaseStep; repeat' split
  all_goals simp
@[simp] theorem State.phaseStep_cellLink (h : Fin 8) (p : ProfileFields) (j : Joint) (s : State) :
    (s.phaseStep h p j).cellLink = s.cellLink := by
  unfold State.phaseStep; repeat' split
  all_goals simp
@[simp] theorem State.phaseStep_inspLink (h : Fin 8) (p : ProfileFields) (j : Joint) (s : State) :
    (s.phaseStep h p j).inspLink = s.inspLink := by
  unfold State.phaseStep; repeat' split
  all_goals simp
@[simp] theorem State.phaseStep_port (h : Fin 8) (p : ProfileFields) (j : Joint) (s : State) :
    (s.phaseStep h p j).port = s.port := by
  unfold State.phaseStep; repeat' split
  all_goals simp
@[simp] theorem State.phaseStep_txSince (h : Fin 8) (p : ProfileFields) (j : Joint) (s : State) :
    (s.phaseStep h p j).txSince = s.txSince := by
  unfold State.phaseStep; repeat' split
  all_goals simp
@[simp] theorem State.phaseStep_config (h : Fin 8) (p : ProfileFields) (j : Joint) (s : State) :
    (s.phaseStep h p j).config = s.config := by
  unfold State.phaseStep; repeat' split
  all_goals simp

/-! ### `State.heatSteps` -/

@[simp] theorem State.heatSteps_pending (h : Fin 8) (s : State) : (s.heatSteps h).pending = s.pending := by
  unfold State.heatSteps; dsimp only; repeat' split
  all_goals simp
@[simp] theorem State.heatSteps_phase (h : Fin 8) (s : State) : (s.heatSteps h).phase = s.phase := by
  unfold State.heatSteps; dsimp only; repeat' split
  all_goals simp
@[simp] theorem State.heatSteps_now (h : Fin 8) (s : State) : (s.heatSteps h).now = s.now := by
  unfold State.heatSteps; dsimp only; repeat' split
  all_goals simp
@[simp] theorem State.heatSteps_profiles (h : Fin 8) (s : State) : (s.heatSteps h).profiles = s.profiles := by
  unfold State.heatSteps; dsimp only; repeat' split
  all_goals simp
@[simp] theorem State.heatSteps_cell (h : Fin 8) (s : State) : (s.heatSteps h).cell = s.cell := by
  unfold State.heatSteps; dsimp only; repeat' split
  all_goals simp
@[simp] theorem State.heatSteps_cellLink (h : Fin 8) (s : State) : (s.heatSteps h).cellLink = s.cellLink := by
  unfold State.heatSteps; dsimp only; repeat' split
  all_goals simp
@[simp] theorem State.heatSteps_inspLink (h : Fin 8) (s : State) : (s.heatSteps h).inspLink = s.inspLink := by
  unfold State.heatSteps; dsimp only; repeat' split
  all_goals simp
@[simp] theorem State.heatSteps_port (h : Fin 8) (s : State) : (s.heatSteps h).port = s.port := by
  unfold State.heatSteps; dsimp only; repeat' split
  all_goals simp
@[simp] theorem State.heatSteps_txSince (h : Fin 8) (s : State) : (s.heatSteps h).txSince = s.txSince := by
  unfold State.heatSteps; dsimp only; repeat' split
  all_goals simp
@[simp] theorem State.heatSteps_config (h : Fin 8) (s : State) : (s.heatSteps h).config = s.config := by
  unfold State.heatSteps; dsimp only; repeat' split
  all_goals simp

/-! ### `State.heatingClose` -/

@[simp] theorem State.heatingClose_pending (h : Fin 8) (reading : Option Reading) (s : State) :
    (s.heatingClose h reading).pending = s.pending := by
  unfold State.heatingClose; repeat' split
  all_goals simp
@[simp] theorem State.heatingClose_phase (h : Fin 8) (reading : Option Reading) (s : State) :
    (s.heatingClose h reading).phase = s.phase := by
  unfold State.heatingClose; repeat' split
  all_goals simp
@[simp] theorem State.heatingClose_now (h : Fin 8) (reading : Option Reading) (s : State) :
    (s.heatingClose h reading).now = s.now := by
  unfold State.heatingClose; repeat' split
  all_goals simp
@[simp] theorem State.heatingClose_profiles (h : Fin 8) (reading : Option Reading) (s : State) :
    (s.heatingClose h reading).profiles = s.profiles := by
  unfold State.heatingClose; repeat' split
  all_goals simp
@[simp] theorem State.heatingClose_cell (h : Fin 8) (reading : Option Reading) (s : State) :
    (s.heatingClose h reading).cell = s.cell := by
  unfold State.heatingClose; repeat' split
  all_goals simp
@[simp] theorem State.heatingClose_cellLink (h : Fin 8) (reading : Option Reading) (s : State) :
    (s.heatingClose h reading).cellLink = s.cellLink := by
  unfold State.heatingClose; repeat' split
  all_goals simp
@[simp] theorem State.heatingClose_inspLink (h : Fin 8) (reading : Option Reading) (s : State) :
    (s.heatingClose h reading).inspLink = s.inspLink := by
  unfold State.heatingClose; repeat' split
  all_goals simp
@[simp] theorem State.heatingClose_port (h : Fin 8) (reading : Option Reading) (s : State) :
    (s.heatingClose h reading).port = s.port := by
  unfold State.heatingClose; repeat' split
  all_goals simp
@[simp] theorem State.heatingClose_txSince (h : Fin 8) (reading : Option Reading) (s : State) :
    (s.heatingClose h reading).txSince = s.txSince := by
  unfold State.heatingClose; repeat' split
  all_goals simp
@[simp] theorem State.heatingClose_config (h : Fin 8) (reading : Option Reading) (s : State) :
    (s.heatingClose h reading).config = s.config := by
  unfold State.heatingClose; repeat' split
  all_goals simp

/-! ### `State.coolingClose` -/

@[simp] theorem State.coolingClose_pending (h : Fin 8) (s : State) : (s.coolingClose h).pending = s.pending := by
  unfold State.coolingClose; repeat' split
  all_goals simp
@[simp] theorem State.coolingClose_phase (h : Fin 8) (s : State) : (s.coolingClose h).phase = s.phase := by
  unfold State.coolingClose; repeat' split
  all_goals simp
@[simp] theorem State.coolingClose_now (h : Fin 8) (s : State) : (s.coolingClose h).now = s.now := by
  unfold State.coolingClose; repeat' split
  all_goals simp
@[simp] theorem State.coolingClose_profiles (h : Fin 8) (s : State) : (s.coolingClose h).profiles = s.profiles := by
  unfold State.coolingClose; repeat' split
  all_goals simp
@[simp] theorem State.coolingClose_heads (h : Fin 8) (s : State) : (s.coolingClose h).heads = s.heads := by
  unfold State.coolingClose; repeat' split
  all_goals simp
@[simp] theorem State.coolingClose_power (h : Fin 8) (s : State) : (s.coolingClose h).power = s.power := by
  unfold State.coolingClose; repeat' split
  all_goals simp
@[simp] theorem State.coolingClose_sched (h : Fin 8) (s : State) : (s.coolingClose h).sched = s.sched := by
  unfold State.coolingClose; repeat' split
  all_goals simp
@[simp] theorem State.coolingClose_gen (h : Fin 8) (s : State) : (s.coolingClose h).gen = s.gen := by
  unfold State.coolingClose; repeat' split
  all_goals simp
@[simp] theorem State.coolingClose_cell (h : Fin 8) (s : State) : (s.coolingClose h).cell = s.cell := by
  unfold State.coolingClose; repeat' split
  all_goals simp
@[simp] theorem State.coolingClose_cellLink (h : Fin 8) (s : State) : (s.coolingClose h).cellLink = s.cellLink := by
  unfold State.coolingClose; repeat' split
  all_goals simp
@[simp] theorem State.coolingClose_inspLink (h : Fin 8) (s : State) : (s.coolingClose h).inspLink = s.inspLink := by
  unfold State.coolingClose; repeat' split
  all_goals simp
@[simp] theorem State.coolingClose_port (h : Fin 8) (s : State) : (s.coolingClose h).port = s.port := by
  unfold State.coolingClose; repeat' split
  all_goals simp
@[simp] theorem State.coolingClose_txSince (h : Fin 8) (s : State) : (s.coolingClose h).txSince = s.txSince := by
  unfold State.coolingClose; repeat' split
  all_goals simp
@[simp] theorem State.coolingClose_events (h : Fin 8) (s : State) : (s.coolingClose h).events = s.events := by
  unfold State.coolingClose; repeat' split
  all_goals simp
@[simp] theorem State.coolingClose_config (h : Fin 8) (s : State) : (s.coolingClose h).config = s.config := by
  unfold State.coolingClose; repeat' split
  all_goals simp
@[simp] theorem State.coolingClose_driven (h : Fin 8) (s : State) : (s.coolingClose h).driven = s.driven := by
  unfold State.coolingClose; repeat' split
  all_goals simp

/-! ### `State.closeWork` -/

@[simp] theorem State.closeWork_pending (h : Fin 8) (reading : Option Reading) (s : State) :
    (s.closeWork h reading).pending = s.pending := by
  unfold State.closeWork; repeat' split
  all_goals simp
@[simp] theorem State.closeWork_phase (h : Fin 8) (reading : Option Reading) (s : State) :
    (s.closeWork h reading).phase = s.phase := by
  unfold State.closeWork; repeat' split
  all_goals simp
@[simp] theorem State.closeWork_now (h : Fin 8) (reading : Option Reading) (s : State) :
    (s.closeWork h reading).now = s.now := by
  unfold State.closeWork; repeat' split
  all_goals simp
@[simp] theorem State.closeWork_profiles (h : Fin 8) (reading : Option Reading) (s : State) :
    (s.closeWork h reading).profiles = s.profiles := by
  unfold State.closeWork; repeat' split
  all_goals simp
@[simp] theorem State.closeWork_cell (h : Fin 8) (reading : Option Reading) (s : State) :
    (s.closeWork h reading).cell = s.cell := by
  unfold State.closeWork; repeat' split
  all_goals simp
@[simp] theorem State.closeWork_cellLink (h : Fin 8) (reading : Option Reading) (s : State) :
    (s.closeWork h reading).cellLink = s.cellLink := by
  unfold State.closeWork; repeat' split
  all_goals simp
@[simp] theorem State.closeWork_inspLink (h : Fin 8) (reading : Option Reading) (s : State) :
    (s.closeWork h reading).inspLink = s.inspLink := by
  unfold State.closeWork; repeat' split
  all_goals simp
@[simp] theorem State.closeWork_port (h : Fin 8) (reading : Option Reading) (s : State) :
    (s.closeWork h reading).port = s.port := by
  unfold State.closeWork; repeat' split
  all_goals simp
@[simp] theorem State.closeWork_txSince (h : Fin 8) (reading : Option Reading) (s : State) :
    (s.closeWork h reading).txSince = s.txSince := by
  unfold State.closeWork; repeat' split
  all_goals simp
@[simp] theorem State.closeWork_config (h : Fin 8) (reading : Option Reading) (s : State) :
    (s.closeWork h reading).config = s.config := by
  unfold State.closeWork; repeat' split
  all_goals simp

/-! ### `State.computeDemand` -/

@[simp] theorem State.computeDemand_pending (h : Fin 8) (j : Joint) (temp : Nat) (s : State) :
    (s.computeDemand h j temp).pending = s.pending := by
  unfold State.computeDemand
  simp
@[simp] theorem State.computeDemand_phase (h : Fin 8) (j : Joint) (temp : Nat) (s : State) :
    (s.computeDemand h j temp).phase = s.phase := by
  unfold State.computeDemand
  simp
@[simp] theorem State.computeDemand_now (h : Fin 8) (j : Joint) (temp : Nat) (s : State) :
    (s.computeDemand h j temp).now = s.now := by
  unfold State.computeDemand
  simp
@[simp] theorem State.computeDemand_profiles (h : Fin 8) (j : Joint) (temp : Nat) (s : State) :
    (s.computeDemand h j temp).profiles = s.profiles := by
  unfold State.computeDemand
  simp
@[simp] theorem State.computeDemand_heads (h : Fin 8) (j : Joint) (temp : Nat) (s : State) :
    (s.computeDemand h j temp).heads = s.heads := by
  unfold State.computeDemand
  simp
@[simp] theorem State.computeDemand_sched (h : Fin 8) (j : Joint) (temp : Nat) (s : State) :
    (s.computeDemand h j temp).sched = s.sched := by
  unfold State.computeDemand
  simp
@[simp] theorem State.computeDemand_cell (h : Fin 8) (j : Joint) (temp : Nat) (s : State) :
    (s.computeDemand h j temp).cell = s.cell := by
  unfold State.computeDemand
  simp
@[simp] theorem State.computeDemand_cellLink (h : Fin 8) (j : Joint) (temp : Nat) (s : State) :
    (s.computeDemand h j temp).cellLink = s.cellLink := by
  unfold State.computeDemand
  simp
@[simp] theorem State.computeDemand_inspLink (h : Fin 8) (j : Joint) (temp : Nat) (s : State) :
    (s.computeDemand h j temp).inspLink = s.inspLink := by
  unfold State.computeDemand
  simp
@[simp] theorem State.computeDemand_port (h : Fin 8) (j : Joint) (temp : Nat) (s : State) :
    (s.computeDemand h j temp).port = s.port := by
  unfold State.computeDemand
  simp
@[simp] theorem State.computeDemand_txSince (h : Fin 8) (j : Joint) (temp : Nat) (s : State) :
    (s.computeDemand h j temp).txSince = s.txSince := by
  unfold State.computeDemand
  simp
@[simp] theorem State.computeDemand_events (h : Fin 8) (j : Joint) (temp : Nat) (s : State) :
    (s.computeDemand h j temp).events = s.events := by
  unfold State.computeDemand
  simp
@[simp] theorem State.computeDemand_config (h : Fin 8) (j : Joint) (temp : Nat) (s : State) :
    (s.computeDemand h j temp).config = s.config := by
  unfold State.computeDemand
  simp

/-! ### `State.guardWork` -/

@[simp] theorem State.guardWork_pending (h : Fin 8) (s : State) : (s.guardWork h).pending = s.pending := by
  unfold State.guardWork; repeat' split
  all_goals simp
@[simp] theorem State.guardWork_phase (h : Fin 8) (s : State) : (s.guardWork h).phase = s.phase := by
  unfold State.guardWork; repeat' split
  all_goals simp
@[simp] theorem State.guardWork_now (h : Fin 8) (s : State) : (s.guardWork h).now = s.now := by
  unfold State.guardWork; repeat' split
  all_goals simp
@[simp] theorem State.guardWork_profiles (h : Fin 8) (s : State) : (s.guardWork h).profiles = s.profiles := by
  unfold State.guardWork; repeat' split
  all_goals simp
@[simp] theorem State.guardWork_heads (h : Fin 8) (s : State) : (s.guardWork h).heads = s.heads := by
  unfold State.guardWork; repeat' split
  all_goals simp
@[simp] theorem State.guardWork_sched (h : Fin 8) (s : State) : (s.guardWork h).sched = s.sched := by
  unfold State.guardWork; repeat' split
  all_goals simp
@[simp] theorem State.guardWork_cell (h : Fin 8) (s : State) : (s.guardWork h).cell = s.cell := by
  unfold State.guardWork; repeat' split
  all_goals simp
@[simp] theorem State.guardWork_cellLink (h : Fin 8) (s : State) : (s.guardWork h).cellLink = s.cellLink := by
  unfold State.guardWork; repeat' split
  all_goals simp
@[simp] theorem State.guardWork_inspLink (h : Fin 8) (s : State) : (s.guardWork h).inspLink = s.inspLink := by
  unfold State.guardWork; repeat' split
  all_goals simp
@[simp] theorem State.guardWork_port (h : Fin 8) (s : State) : (s.guardWork h).port = s.port := by
  unfold State.guardWork; repeat' split
  all_goals simp
@[simp] theorem State.guardWork_txSince (h : Fin 8) (s : State) : (s.guardWork h).txSince = s.txSince := by
  unfold State.guardWork; repeat' split
  all_goals simp
@[simp] theorem State.guardWork_events (h : Fin 8) (s : State) : (s.guardWork h).events = s.events := by
  unfold State.guardWork; repeat' split
  all_goals simp
@[simp] theorem State.guardWork_config (h : Fin 8) (s : State) : (s.guardWork h).config = s.config := by
  unfold State.guardWork; repeat' split
  all_goals simp

/-! ### `State.energyTest` -/

@[simp] theorem State.energyTest_pending (h : Fin 8) (k : Key) (s : State) :
    (s.energyTest h k).pending = s.pending := by
  unfold State.energyTest; repeat' split
  all_goals simp
@[simp] theorem State.energyTest_phase (h : Fin 8) (k : Key) (s : State) : (s.energyTest h k).phase = s.phase := by
  unfold State.energyTest; repeat' split
  all_goals simp
@[simp] theorem State.energyTest_now (h : Fin 8) (k : Key) (s : State) : (s.energyTest h k).now = s.now := by
  unfold State.energyTest; repeat' split
  all_goals simp
@[simp] theorem State.energyTest_profiles (h : Fin 8) (k : Key) (s : State) :
    (s.energyTest h k).profiles = s.profiles := by
  unfold State.energyTest; repeat' split
  all_goals simp
@[simp] theorem State.energyTest_cell (h : Fin 8) (k : Key) (s : State) : (s.energyTest h k).cell = s.cell := by
  unfold State.energyTest; repeat' split
  all_goals simp
@[simp] theorem State.energyTest_cellLink (h : Fin 8) (k : Key) (s : State) :
    (s.energyTest h k).cellLink = s.cellLink := by
  unfold State.energyTest; repeat' split
  all_goals simp
@[simp] theorem State.energyTest_inspLink (h : Fin 8) (k : Key) (s : State) :
    (s.energyTest h k).inspLink = s.inspLink := by
  unfold State.energyTest; repeat' split
  all_goals simp
@[simp] theorem State.energyTest_port (h : Fin 8) (k : Key) (s : State) : (s.energyTest h k).port = s.port := by
  unfold State.energyTest; repeat' split
  all_goals simp
@[simp] theorem State.energyTest_txSince (h : Fin 8) (k : Key) (s : State) : (s.energyTest h k).txSince = s.txSince := by
  unfold State.energyTest; repeat' split
  all_goals simp
@[simp] theorem State.energyTest_config (h : Fin 8) (k : Key) (s : State) : (s.energyTest h k).config = s.config := by
  unfold State.energyTest; repeat' split
  all_goals simp

/-! ### `State.energyWork` -/

@[simp] theorem State.energyWork_pending (s : State) : (s.energyWork).pending = s.pending := by
  unfold State.energyWork; repeat' split
  all_goals simp
@[simp] theorem State.energyWork_phase (s : State) : (s.energyWork).phase = s.phase := by
  unfold State.energyWork; repeat' split
  all_goals simp
@[simp] theorem State.energyWork_now (s : State) : (s.energyWork).now = s.now := by
  unfold State.energyWork; repeat' split
  all_goals simp
@[simp] theorem State.energyWork_profiles (s : State) : (s.energyWork).profiles = s.profiles := by
  unfold State.energyWork; repeat' split
  all_goals simp
@[simp] theorem State.energyWork_cell (s : State) : (s.energyWork).cell = s.cell := by
  unfold State.energyWork; repeat' split
  all_goals simp
@[simp] theorem State.energyWork_cellLink (s : State) : (s.energyWork).cellLink = s.cellLink := by
  unfold State.energyWork; repeat' split
  all_goals simp
@[simp] theorem State.energyWork_inspLink (s : State) : (s.energyWork).inspLink = s.inspLink := by
  unfold State.energyWork; repeat' split
  all_goals simp
@[simp] theorem State.energyWork_port (s : State) : (s.energyWork).port = s.port := by
  unfold State.energyWork; repeat' split
  all_goals simp
@[simp] theorem State.energyWork_txSince (s : State) : (s.energyWork).txSince = s.txSince := by
  unfold State.energyWork; repeat' split
  all_goals simp
@[simp] theorem State.energyWork_config (s : State) : (s.energyWork).config = s.config := by
  unfold State.energyWork; repeat' split
  all_goals simp

/-! ### `State.tankWork` -/

@[simp] theorem State.tankWork_pending (h : Fin 8) (measured : Option Nat) (s : State) :
    (s.tankWork h measured).pending = s.pending := by
  unfold State.tankWork; dsimp only; repeat' split
  all_goals simp
@[simp] theorem State.tankWork_phase (h : Fin 8) (measured : Option Nat) (s : State) :
    (s.tankWork h measured).phase = s.phase := by
  unfold State.tankWork; dsimp only; repeat' split
  all_goals simp
@[simp] theorem State.tankWork_now (h : Fin 8) (measured : Option Nat) (s : State) :
    (s.tankWork h measured).now = s.now := by
  unfold State.tankWork; dsimp only; repeat' split
  all_goals simp
@[simp] theorem State.tankWork_profiles (h : Fin 8) (measured : Option Nat) (s : State) :
    (s.tankWork h measured).profiles = s.profiles := by
  unfold State.tankWork; dsimp only; repeat' split
  all_goals simp
@[simp] theorem State.tankWork_cell (h : Fin 8) (measured : Option Nat) (s : State) :
    (s.tankWork h measured).cell = s.cell := by
  unfold State.tankWork; dsimp only; repeat' split
  all_goals simp
@[simp] theorem State.tankWork_cellLink (h : Fin 8) (measured : Option Nat) (s : State) :
    (s.tankWork h measured).cellLink = s.cellLink := by
  unfold State.tankWork; dsimp only; repeat' split
  all_goals simp
@[simp] theorem State.tankWork_inspLink (h : Fin 8) (measured : Option Nat) (s : State) :
    (s.tankWork h measured).inspLink = s.inspLink := by
  unfold State.tankWork; dsimp only; repeat' split
  all_goals simp
@[simp] theorem State.tankWork_port (h : Fin 8) (measured : Option Nat) (s : State) :
    (s.tankWork h measured).port = s.port := by
  unfold State.tankWork; dsimp only; repeat' split
  all_goals simp
@[simp] theorem State.tankWork_txSince (h : Fin 8) (measured : Option Nat) (s : State) :
    (s.tankWork h measured).txSince = s.txSince := by
  unfold State.tankWork; dsimp only; repeat' split
  all_goals simp
@[simp] theorem State.tankWork_config (h : Fin 8) (measured : Option Nat) (s : State) :
    (s.tankWork h measured).config = s.config := by
  unfold State.tankWork; dsimp only; repeat' split
  all_goals simp

/-! ### `State.advanceFrame` -/

@[simp] theorem State.advanceFrame_pending (s : State) : (s.advanceFrame).pending = s.pending := by
  unfold State.advanceFrame; dsimp only; repeat' split
  all_goals simp
@[simp] theorem State.advanceFrame_phase (s : State) : (s.advanceFrame).phase = s.phase := by
  unfold State.advanceFrame; dsimp only; repeat' split
  all_goals simp
@[simp] theorem State.advanceFrame_now (s : State) : (s.advanceFrame).now = s.now := by
  unfold State.advanceFrame; dsimp only; repeat' split
  all_goals simp
@[simp] theorem State.advanceFrame_table (s : State) : (s.advanceFrame).table = s.table := by
  unfold State.advanceFrame; dsimp only; repeat' split
  all_goals simp
@[simp] theorem State.advanceFrame_profiles (s : State) : (s.advanceFrame).profiles = s.profiles := by
  unfold State.advanceFrame; dsimp only; repeat' split
  all_goals simp
@[simp] theorem State.advanceFrame_heads (s : State) : (s.advanceFrame).heads = s.heads := by
  unfold State.advanceFrame; dsimp only; repeat' split
  all_goals simp
@[simp] theorem State.advanceFrame_power (s : State) : (s.advanceFrame).power = s.power := by
  unfold State.advanceFrame; dsimp only; repeat' split
  all_goals simp
@[simp] theorem State.advanceFrame_gen (s : State) : (s.advanceFrame).gen = s.gen := by
  unfold State.advanceFrame; dsimp only; repeat' split
  all_goals simp
@[simp] theorem State.advanceFrame_cell (s : State) : (s.advanceFrame).cell = s.cell := by
  unfold State.advanceFrame; dsimp only; repeat' split
  all_goals simp
@[simp] theorem State.advanceFrame_cellLink (s : State) : (s.advanceFrame).cellLink = s.cellLink := by
  unfold State.advanceFrame; dsimp only; repeat' split
  all_goals simp
@[simp] theorem State.advanceFrame_inspLink (s : State) : (s.advanceFrame).inspLink = s.inspLink := by
  unfold State.advanceFrame; dsimp only; repeat' split
  all_goals simp
@[simp] theorem State.advanceFrame_port (s : State) : (s.advanceFrame).port = s.port := by
  unfold State.advanceFrame; dsimp only; repeat' split
  all_goals simp
@[simp] theorem State.advanceFrame_txSince (s : State) : (s.advanceFrame).txSince = s.txSince := by
  unfold State.advanceFrame; dsimp only; repeat' split
  all_goals simp
@[simp] theorem State.advanceFrame_config (s : State) : (s.advanceFrame).config = s.config := by
  unfold State.advanceFrame; dsimp only; repeat' split
  all_goals simp
@[simp] theorem State.advanceFrame_driven (s : State) : (s.advanceFrame).driven = s.driven := by
  unfold State.advanceFrame; dsimp only; repeat' split
  all_goals simp

/-! ### `State.slotEndWorks` -/

@[simp] theorem State.slotEndWorks_pending (h : Fin 8) (measured : Option Nat) (order : SlotEndOrder) (s : State) :
    (s.slotEndWorks h measured order).pending = s.pending := by
  unfold State.slotEndWorks; repeat' split
  all_goals simp
@[simp] theorem State.slotEndWorks_phase (h : Fin 8) (measured : Option Nat) (order : SlotEndOrder) (s : State) :
    (s.slotEndWorks h measured order).phase = s.phase := by
  unfold State.slotEndWorks; repeat' split
  all_goals simp
@[simp] theorem State.slotEndWorks_now (h : Fin 8) (measured : Option Nat) (order : SlotEndOrder) (s : State) :
    (s.slotEndWorks h measured order).now = s.now := by
  unfold State.slotEndWorks; repeat' split
  all_goals simp
@[simp] theorem State.slotEndWorks_profiles (h : Fin 8) (measured : Option Nat) (order : SlotEndOrder) (s : State) :
    (s.slotEndWorks h measured order).profiles = s.profiles := by
  unfold State.slotEndWorks; repeat' split
  all_goals simp
@[simp] theorem State.slotEndWorks_cell (h : Fin 8) (measured : Option Nat) (order : SlotEndOrder) (s : State) :
    (s.slotEndWorks h measured order).cell = s.cell := by
  unfold State.slotEndWorks; repeat' split
  all_goals simp
@[simp] theorem State.slotEndWorks_cellLink (h : Fin 8) (measured : Option Nat) (order : SlotEndOrder) (s : State) :
    (s.slotEndWorks h measured order).cellLink = s.cellLink := by
  unfold State.slotEndWorks; repeat' split
  all_goals simp
@[simp] theorem State.slotEndWorks_inspLink (h : Fin 8) (measured : Option Nat) (order : SlotEndOrder) (s : State) :
    (s.slotEndWorks h measured order).inspLink = s.inspLink := by
  unfold State.slotEndWorks; repeat' split
  all_goals simp
@[simp] theorem State.slotEndWorks_port (h : Fin 8) (measured : Option Nat) (order : SlotEndOrder) (s : State) :
    (s.slotEndWorks h measured order).port = s.port := by
  unfold State.slotEndWorks; repeat' split
  all_goals simp
@[simp] theorem State.slotEndWorks_txSince (h : Fin 8) (measured : Option Nat) (order : SlotEndOrder) (s : State) :
    (s.slotEndWorks h measured order).txSince = s.txSince := by
  unfold State.slotEndWorks; repeat' split
  all_goals simp
@[simp] theorem State.slotEndWorks_config (h : Fin 8) (measured : Option Nat) (order : SlotEndOrder) (s : State) :
    (s.slotEndWorks h measured order).config = s.config := by
  unfold State.slotEndWorks; repeat' split
  all_goals simp

/-! ### `State.judgeTank` -/

@[simp] theorem State.judgeTank_pending (w : SlotTank) (s : State) :
    (s.judgeTank w).pending = s.pending := by
  unfold State.judgeTank; repeat' split
  all_goals simp
@[simp] theorem State.judgeTank_phase (w : SlotTank) (s : State) :
    (s.judgeTank w).phase = s.phase := by
  unfold State.judgeTank; repeat' split
  all_goals simp
@[simp] theorem State.judgeTank_now (w : SlotTank) (s : State) :
    (s.judgeTank w).now = s.now := by
  unfold State.judgeTank; repeat' split
  all_goals simp
@[simp] theorem State.judgeTank_profiles (w : SlotTank) (s : State) :
    (s.judgeTank w).profiles = s.profiles := by
  unfold State.judgeTank; repeat' split
  all_goals simp
@[simp] theorem State.judgeTank_cell (w : SlotTank) (s : State) :
    (s.judgeTank w).cell = s.cell := by
  unfold State.judgeTank; repeat' split
  all_goals simp
@[simp] theorem State.judgeTank_cellLink (w : SlotTank) (s : State) :
    (s.judgeTank w).cellLink = s.cellLink := by
  unfold State.judgeTank; repeat' split
  all_goals simp
@[simp] theorem State.judgeTank_inspLink (w : SlotTank) (s : State) :
    (s.judgeTank w).inspLink = s.inspLink := by
  unfold State.judgeTank; repeat' split
  all_goals simp
@[simp] theorem State.judgeTank_port (w : SlotTank) (s : State) :
    (s.judgeTank w).port = s.port := by
  unfold State.judgeTank; repeat' split
  all_goals simp
@[simp] theorem State.judgeTank_txSince (w : SlotTank) (s : State) :
    (s.judgeTank w).txSince = s.txSince := by
  unfold State.judgeTank; repeat' split
  all_goals simp
@[simp] theorem State.judgeTank_config (w : SlotTank) (s : State) :
    (s.judgeTank w).config = s.config := by
  unfold State.judgeTank; repeat' split
  all_goals simp

/-! ### `State.completeSlotEnd` -/

@[simp] theorem State.completeSlotEnd_pending (w : SlotTank) (s : State) :
    (s.completeSlotEnd w).pending = s.pending := by
  unfold State.completeSlotEnd; dsimp only; repeat' split
  all_goals simp
@[simp] theorem State.completeSlotEnd_phase (w : SlotTank) (s : State) :
    (s.completeSlotEnd w).phase = s.phase := by
  unfold State.completeSlotEnd; dsimp only; repeat' split
  all_goals simp
@[simp] theorem State.completeSlotEnd_now (w : SlotTank) (s : State) :
    (s.completeSlotEnd w).now = s.now := by
  unfold State.completeSlotEnd; dsimp only; repeat' split
  all_goals simp
@[simp] theorem State.completeSlotEnd_profiles (w : SlotTank) (s : State) :
    (s.completeSlotEnd w).profiles = s.profiles := by
  unfold State.completeSlotEnd; dsimp only; repeat' split
  all_goals simp
@[simp] theorem State.completeSlotEnd_cell (w : SlotTank) (s : State) :
    (s.completeSlotEnd w).cell = s.cell := by
  unfold State.completeSlotEnd; dsimp only; repeat' split
  all_goals simp
@[simp] theorem State.completeSlotEnd_cellLink (w : SlotTank) (s : State) :
    (s.completeSlotEnd w).cellLink = s.cellLink := by
  unfold State.completeSlotEnd; dsimp only; repeat' split
  all_goals simp
@[simp] theorem State.completeSlotEnd_inspLink (w : SlotTank) (s : State) :
    (s.completeSlotEnd w).inspLink = s.inspLink := by
  unfold State.completeSlotEnd; dsimp only; repeat' split
  all_goals simp
@[simp] theorem State.completeSlotEnd_port (w : SlotTank) (s : State) :
    (s.completeSlotEnd w).port = s.port := by
  unfold State.completeSlotEnd; dsimp only; repeat' split
  all_goals simp
@[simp] theorem State.completeSlotEnd_txSince (w : SlotTank) (s : State) :
    (s.completeSlotEnd w).txSince = s.txSince := by
  unfold State.completeSlotEnd; dsimp only; repeat' split
  all_goals simp
@[simp] theorem State.completeSlotEnd_config (w : SlotTank) (s : State) :
    (s.completeSlotEnd w).config = s.config := by
  unfold State.completeSlotEnd; dsimp only; repeat' split
  all_goals simp

/-! ### `State.judgeWarning` -/

@[simp] theorem State.judgeWarning_pending (v : Nat) (s : State) : (s.judgeWarning v).pending = s.pending := by
  unfold State.judgeWarning; dsimp only; repeat' split
  all_goals rfl
@[simp] theorem State.judgeWarning_phase (v : Nat) (s : State) : (s.judgeWarning v).phase = s.phase := by
  unfold State.judgeWarning; dsimp only; repeat' split
  all_goals rfl
@[simp] theorem State.judgeWarning_now (v : Nat) (s : State) : (s.judgeWarning v).now = s.now := by
  unfold State.judgeWarning; dsimp only; repeat' split
  all_goals rfl
@[simp] theorem State.judgeWarning_table (v : Nat) (s : State) : (s.judgeWarning v).table = s.table := by
  unfold State.judgeWarning; dsimp only; repeat' split
  all_goals rfl
@[simp] theorem State.judgeWarning_profiles (v : Nat) (s : State) : (s.judgeWarning v).profiles = s.profiles := by
  unfold State.judgeWarning; dsimp only; repeat' split
  all_goals rfl
@[simp] theorem State.judgeWarning_heads (v : Nat) (s : State) : (s.judgeWarning v).heads = s.heads := by
  unfold State.judgeWarning; dsimp only; repeat' split
  all_goals rfl
@[simp] theorem State.judgeWarning_power (v : Nat) (s : State) : (s.judgeWarning v).power = s.power := by
  unfold State.judgeWarning; dsimp only; repeat' split
  all_goals rfl
@[simp] theorem State.judgeWarning_sched (v : Nat) (s : State) : (s.judgeWarning v).sched = s.sched := by
  unfold State.judgeWarning; dsimp only; repeat' split
  all_goals rfl
@[simp] theorem State.judgeWarning_gen (v : Nat) (s : State) : (s.judgeWarning v).gen = s.gen := by
  unfold State.judgeWarning; dsimp only; repeat' split
  all_goals rfl
@[simp] theorem State.judgeWarning_cellLink (v : Nat) (s : State) : (s.judgeWarning v).cellLink = s.cellLink := by
  unfold State.judgeWarning; dsimp only; repeat' split
  all_goals rfl
@[simp] theorem State.judgeWarning_inspLink (v : Nat) (s : State) : (s.judgeWarning v).inspLink = s.inspLink := by
  unfold State.judgeWarning; dsimp only; repeat' split
  all_goals rfl
@[simp] theorem State.judgeWarning_port (v : Nat) (s : State) : (s.judgeWarning v).port = s.port := by
  unfold State.judgeWarning; dsimp only; repeat' split
  all_goals rfl
@[simp] theorem State.judgeWarning_txSince (v : Nat) (s : State) : (s.judgeWarning v).txSince = s.txSince := by
  unfold State.judgeWarning; dsimp only; repeat' split
  all_goals rfl
@[simp] theorem State.judgeWarning_config (v : Nat) (s : State) : (s.judgeWarning v).config = s.config := by
  unfold State.judgeWarning; dsimp only; repeat' split
  all_goals rfl
@[simp] theorem State.judgeWarning_driven (v : Nat) (s : State) : (s.judgeWarning v).driven = s.driven := by
  unfold State.judgeWarning; dsimp only; repeat' split
  all_goals rfl

/-! ### `State.rejectAll`, `State.testAllStarts` -/

/-- What no rejection at one head changes, the rejection of every heating joint leaves. -/
theorem State.rejectAll_keeps {α : Type} (p : State → α) (c : RejectCause) (s : State)
    (hp : ∀ (h : Fin 8) (s : State), p (s.rejectToCooling h c) = p s) : p (s.rejectAll c) = p s := by
  simp [State.rejectAll, allHeads, hp]

/-- What no start at one head changes, the test of every head leaves. -/
theorem State.testAllStarts_keeps {α : Type} (p : State → α) (s : State)
    (hp : ∀ (h : Fin 8) (s : State), p (s.testStart h) = p s) : p s.testAllStarts = p s := by
  simp [State.testAllStarts, allHeads, hp]

@[simp] theorem State.rejectAll_pending (c : RejectCause) (s : State) : (s.rejectAll c).pending = s.pending :=
  State.rejectAll_keeps State.pending c s fun h s => by simp
@[simp] theorem State.rejectAll_phase (c : RejectCause) (s : State) : (s.rejectAll c).phase = s.phase :=
  State.rejectAll_keeps State.phase c s fun h s => by simp
@[simp] theorem State.rejectAll_now (c : RejectCause) (s : State) : (s.rejectAll c).now = s.now :=
  State.rejectAll_keeps State.now c s fun h s => by simp
@[simp] theorem State.rejectAll_profiles (c : RejectCause) (s : State) : (s.rejectAll c).profiles = s.profiles :=
  State.rejectAll_keeps State.profiles c s fun h s => by simp
@[simp] theorem State.rejectAll_cell (c : RejectCause) (s : State) : (s.rejectAll c).cell = s.cell :=
  State.rejectAll_keeps State.cell c s fun h s => by simp
@[simp] theorem State.rejectAll_cellLink (c : RejectCause) (s : State) : (s.rejectAll c).cellLink = s.cellLink :=
  State.rejectAll_keeps State.cellLink c s fun h s => by simp
@[simp] theorem State.rejectAll_inspLink (c : RejectCause) (s : State) : (s.rejectAll c).inspLink = s.inspLink :=
  State.rejectAll_keeps State.inspLink c s fun h s => by simp
@[simp] theorem State.rejectAll_port (c : RejectCause) (s : State) : (s.rejectAll c).port = s.port :=
  State.rejectAll_keeps State.port c s fun h s => by simp
@[simp] theorem State.rejectAll_txSince (c : RejectCause) (s : State) : (s.rejectAll c).txSince = s.txSince :=
  State.rejectAll_keeps State.txSince c s fun h s => by simp
@[simp] theorem State.rejectAll_config (c : RejectCause) (s : State) : (s.rejectAll c).config = s.config :=
  State.rejectAll_keeps State.config c s fun h s => by simp

@[simp] theorem State.testAllStarts_pending (s : State) : (s.testAllStarts).pending = s.pending :=
  State.testAllStarts_keeps State.pending s fun h s => by simp
@[simp] theorem State.testAllStarts_phase (s : State) : (s.testAllStarts).phase = s.phase :=
  State.testAllStarts_keeps State.phase s fun h s => by simp
@[simp] theorem State.testAllStarts_now (s : State) : (s.testAllStarts).now = s.now :=
  State.testAllStarts_keeps State.now s fun h s => by simp
@[simp] theorem State.testAllStarts_profiles (s : State) : (s.testAllStarts).profiles = s.profiles :=
  State.testAllStarts_keeps State.profiles s fun h s => by simp
@[simp] theorem State.testAllStarts_sched (s : State) : (s.testAllStarts).sched = s.sched :=
  State.testAllStarts_keeps State.sched s fun h s => by simp
@[simp] theorem State.testAllStarts_gen (s : State) : (s.testAllStarts).gen = s.gen :=
  State.testAllStarts_keeps State.gen s fun h s => by simp
@[simp] theorem State.testAllStarts_cell (s : State) : (s.testAllStarts).cell = s.cell :=
  State.testAllStarts_keeps State.cell s fun h s => by simp
@[simp] theorem State.testAllStarts_cellLink (s : State) : (s.testAllStarts).cellLink = s.cellLink :=
  State.testAllStarts_keeps State.cellLink s fun h s => by simp
@[simp] theorem State.testAllStarts_inspLink (s : State) : (s.testAllStarts).inspLink = s.inspLink :=
  State.testAllStarts_keeps State.inspLink s fun h s => by simp
@[simp] theorem State.testAllStarts_port (s : State) : (s.testAllStarts).port = s.port :=
  State.testAllStarts_keeps State.port s fun h s => by simp
@[simp] theorem State.testAllStarts_txSince (s : State) : (s.testAllStarts).txSince = s.txSince :=
  State.testAllStarts_keeps State.txSince s fun h s => by simp
@[simp] theorem State.testAllStarts_events (s : State) : (s.testAllStarts).events = s.events :=
  State.testAllStarts_keeps State.events s fun h s => by simp
@[simp] theorem State.testAllStarts_config (s : State) : (s.testAllStarts).config = s.config :=
  State.testAllStarts_keeps State.config s fun h s => by simp
@[simp] theorem State.testAllStarts_driven (s : State) : (s.testAllStarts).driven = s.driven :=
  State.testAllStarts_keeps State.driven s fun h s => by simp

end Sys2Proof.Machine
end

