-- ==== Sys2Proof/Laws/Endings.lean ====
section
/-! SUPPORT. What the end of a heating can do to the head, the output and the events, said once, in the terms of the
statements. -/

namespace Sys2Proof.Machine

/-! ### The head (R61, R62, R64) -/

section cooled
variable (now coolTime : Nat) (hd : Head)
@[simp] theorem Head.cooled_bound : (hd.cooled now coolTime).bound = hd.bound := rfl
@[simp] theorem Head.cooled_window : (hd.cooled now coolTime).window = hd.window := rfl
@[simp] theorem Head.cooled_stepsWaiting : (hd.cooled now coolTime).stepsWaiting = hd.stepsWaiting := rfl
@[simp] theorem Head.cooled_faultCause : (hd.cooled now coolTime).faultCause = hd.faultCause := rfl
end cooled

/-- A joint leaves its head records alone when its cooling timer expires, but for the one that cooled it. -/
theorem State.expireCooling_heads (h : Fin 8) (s : State) :
    (s.expireCooling h).heads = s.heads.set h { s.head h with state := .release, coolingUntil := none } := by
  unfold State.expireCooling
  split
  · split <;> rfl
  · rfl

/-- A head that begins to cool is the one of `Head.cooled`; the seven others stay. -/
theorem State.beginCooling_heads (h : Fin 8) (coolTime : Nat) (s : State) :
    (s.beginCooling h coolTime).heads = s.heads.set h ((s.head h).cooled s.now coolTime) := by
  unfold State.beginCooling
  by_cases hc : coolTime = 0
  · subst hc
    simp only [if_pos, State.expireCooling_heads, State.head_modHead_same]
    simp [State.modHead, State.setHead, Head.cooled, Vector.set_set]
  · simp [hc, State.modHead, State.setHead, Head.cooled]

/-! ### The output (R106) -/

/-- A closed account leaves nothing else of the power unit changed, and drives no line. -/
theorem State.closeAccount_power (onTime : Nat) (s : State) :
    (s.closeAccount onTime).power = { s.power with account := none } ∧ (s.closeAccount onTime).driven = s.driven := by
  unfold State.closeAccount; split
  · next h => exact ⟨by rw [← h], rfl⟩
  · exact ⟨rfl, rfl⟩

/-- The cut of a running output: the code and then the switch, the account closed, the slot recorded as cut. -/
theorem State.cutOutput_spec {s : State} {c : CurrentSlot} (hc : s.sched.current = some c) (hg : c.grant.isSome = true)
    (hcut : c.cut = false) :
    s.cutOutput.gen = { s.gen with code := 0, connected := none, tank := .off } ∧
    s.cutOutput.power = { s.power with account := none } ∧ s.cutOutput.driven = s.driven ++ s.offActions ∧
    s.cutOutput.sched = { s.sched with current := some { c with cut := true } } := by
  have digits : codeDigits 0 = List.replicate 12 false := by decide
  have on : c.grant.isSome = true ∧ (!c.cut) = true := ⟨hg, by simp [hcut]⟩
  simp only [State.cutOutput, hc, if_pos on, (State.closeAccount_power _ _).1, (State.closeAccount_power _ _).2,
    State.closeAccount_gen, State.closeAccount_sched, State.setTank, State.connect_gen, State.setCode_gen,
    State.connect_driven, State.setCode_driven, digits, State.offActions, State.connect_power, State.setCode_power,
    State.connect_sched, State.setCode_sched]
  refine ⟨trivial, trivial, ?_, trivial⟩
  split <;> split <;> simp

/-- With the output in order, a head that stops heating has its own output cut, after the lines driven before. -/
theorem State.cutIfGranted_spec (h : Fin 8) (s : State) (ok : s.OutputOk) : s.OutputCutFor h s.driven (s.cutIfGranted h) := by
  unfold State.OutputCutFor State.cutIfGranted
  cases hg : s.grantedTo h with
  | false => simp
  | true =>
    obtain ⟨c, hc, g, hgr, -⟩ : ∃ c, s.sched.current = some c ∧ ∃ g, c.grant = some g ∧ g.head = h := by
      simpa [State.grantedTo, Option.any_eq_true] using hg
    obtain ⟨-, idle, -, account, dark, -, -⟩ := ok
    cases hcut : c.cut with
    | true =>
      have live : s.liveGrant = none := by simp [State.liveGrant, hc, hcut]
      have none' : s.power.account = none := by
        cases ha : s.power.account with
        | none => rfl
        | some a => simpa [live] using (account a ha).1
      have conn := idle (by simp [hc]) live
      obtain ⟨code, tank⟩ := dark none'
      have same : c = { c with cut := true } := by rw [← hcut]
      rw [State.cutOutput_of_no_grant s (by simp [hc, hcut])]
      refine ⟨?_, ?_, by simp [State.offActions, code, conn], ?_⟩
      · simp only [if_true]; rw [← conn, ← code, ← tank]
      · simp only [if_true]; rw [← none']
      · simp only [if_true, hc, Option.map_some]; rw [← same, ← hc]
    | false =>
      obtain ⟨h1, h2, h3, h4⟩ := State.cutOutput_spec hc (by simp [hgr]) hcut
      simp [h1, h2, h3, h4, hc]

/-! ### The events (R174) -/

/-- Nothing raised yet. -/
theorem State.raisedCounting_nil (s : State) : s.RaisedCounting [] s := fun _ => rfl

/-- One more raise is one more entry of the list. -/
theorem State.RaisedCounting.raise {kinds : List EventKind} {s s' : State} (h : s.RaisedCounting kinds s') (k : EventKind) :
    s.RaisedCounting (kinds ++ [k]) (s'.raise k) := by
  intro n
  by_cases hn : n = k.code
  · subst hn
    rw [State.raise_get_same, h k.code]
    simp [List.map_append, List.count_append, Function.iterate_succ_apply']
  · rw [State.raise_get_other s' hn, h n]
    simp [List.map_append, List.count_append, Ne.symm hn]

end Sys2Proof.Machine
end

