-- ==== Sys2Proof/Laws/Links.lean ====
section
/-! SUPPORT. What each operation on the answers' way out can do, said once. -/

namespace Sys2Proof.Machine

/-- A byte that goes out changes nothing but the port. -/
theorem State.byteOut_cases (s : State) :
    s.byteOut = { s with port := s.byteOut.port } ∧ s.byteOut.port.ahead = false := by
  unfold State.byteOut
  split
  · exact ⟨rfl, rfl⟩
  · unfold State.shiftOut
    split <;> simp_all

/-- The oldest answer leaves exactly when all its bytes have been shifted out, and then the next one is shifted; otherwise
nothing changes. -/
theorem State.answerLeaves_cases (s : State) :
    (∃ n, s.port.transaction = some (.answer n) ∧ s.frontAnswer.length ≤ n ∧
      s.answerLeaves = { s with
        cellLink := { s.cellLink with answers := s.cellLink.answers.tail },
        port := { s.port with transaction := some (if s.cellLink.answers.tail = [] then .filler else .answer 0) } }) ∨
    ((∀ n, s.port.transaction = some (.answer n) → n < s.frontAnswer.length) ∧ s.answerLeaves = s) := by
  unfold State.answerLeaves
  split
  · rename_i n h
    split
    · exact .inl ⟨n, h, ‹_›, rfl⟩
    · exact .inr ⟨fun m e => by rw [h] at e; cases e; omega, rfl⟩
  · exact .inr ⟨fun n e => by simp_all, rfl⟩
  · exact .inr ⟨fun n e => by simp_all, rfl⟩

/-- ANSWER_SENT on the Cell Link is the last byte of the answer that is shifted, with the answer gone; at any other byte
nothing changes. -/
theorem State.sendLastByte_cases (s : State) :
    (∃ n, s.port.transaction = some (.answer n) ∧ s.port.ahead = false ∧ n + 1 = s.frontAnswer.length ∧
      s.sendLastByte = { s with
        cellLink := { s.cellLink with answers := s.cellLink.answers.tail },
        port := { transaction := some (if s.cellLink.answers.tail = [] then .filler else .answer 0),
                  dout := byteAt s.frontAnswer n, ahead := true } }) ∨
    ((∀ n, s.port.transaction = some (.answer n) → s.port.ahead = false → n + 1 ≠ s.frontAnswer.length) ∧
      s.sendLastByte = s) := by
  unfold State.sendLastByte
  split
  · rename_i n h
    split
    · rename_i c
      refine .inl ⟨n, h, c.1, c.2, ?_⟩
      have hl : s.frontAnswer.length ≤ min (n + 1) s.frontAnswer.length := by omega
      simp [State.shiftOut, h, State.answerLeaves, State.frontAnswer, State.popAnswer, State.setLink, State.link,
        State.nextShifting] at hl ⊢
      simp [hl]
    · exact .inr ⟨fun m e a l => by rw [h] at e; cases e; simp_all, rfl⟩
  · exact .inr ⟨fun n e => by simp_all, rfl⟩
  · exact .inr ⟨fun n e => by simp_all, rfl⟩

/-- ANSWER_SENT on the Inspection Link transmits the front answer whole and takes it from its queue; with none it only comes
to its time. -/
theorem State.transmitAnswer_cases (t : Nat) (s : State) :
    (s.inspLink.answers = [] ∧ s.transmitAnswer t = s.arrive t 0) ∨
    (∃ frame rest, s.inspLink.answers = frame :: rest ∧
      let s' := s.arrive t (s.txSince.getD 0 + s.config.running.linkSpeed.transmitTime frame.length)
      s.transmitAnswer t = { s' with
        inspLink := { s.inspLink with answers := rest }, driven := s'.driven ++ [.transmit frame],
        txSince := if rest = [] then none else some s'.now }) := by
  unfold State.transmitAnswer
  split
  · exact .inl ⟨‹_›, rfl⟩
  · rename_i frame rest h
    refine .inr ⟨frame, rest, h, ?_⟩
    simp [State.popAnswer, State.setLink, State.link, State.drive, State.arrive, h]

/-- The rounded transmit time is the least whole µs that ten bit times for each byte fit into (R168). -/
theorem LinkSpeed.transmitTime_spec (speed : LinkSpeed) (bytes : Nat) :
    bytes * 10 * 1000000 ≤ speed.transmitTime bytes * speed.baud ∧
    speed.transmitTime bytes * speed.baud < bytes * 10 * 1000000 + speed.baud := by
  cases speed <;> simp only [LinkSpeed.transmitTime, LinkSpeed.baud] <;> omega

/-- What a byte does to a frame being collected (R159 to R161): it is held, it ends a bad frame, or it completes a good one. -/
theorem State.collectByte_cases (t : Nat) (l : Link) (held : List Byte) (b : Byte) (s : State) :
    ((held.length = 1 ∧ b.toNat ≤ 250 ∨ held.length ≠ 1 ∧ held.length + 1 < (byteAt (held ++ [b]) 1).toNat + 5) ∧
      s.collectByte t l held b = s.setReceiver l (.collecting (held ++ [b]) s.now)) ∨
    ((held.length = 1 ∧ 250 < b.toNat ∨ held.length ≠ 1 ∧ (byteAt (held ++ [b]) 1).toNat + 5 ≤ held.length + 1 ∧
        crc8 (held.drop 1) ≠ b) ∧
      s.collectByte t l held b = s.endBadFrame l) ∨
    (held.length ≠ 1 ∧ (byteAt (held ++ [b]) 1).toNat + 5 ≤ held.length + 1 ∧ crc8 (held.drop 1) = b ∧
      s.collectByte t l held b = s.judgeBytes t l (byteAt held 2) (byteAt held 3) (held.drop 4)) := by
  unfold State.collectByte
  dsimp only
  split
  · split
    · exact .inr (.inl ⟨.inl ⟨‹_›, ‹_›⟩, rfl⟩)
    · exact .inl ⟨.inl ⟨‹_›, Nat.le_of_not_lt ‹_›⟩, rfl⟩
  · split
    · exact .inl ⟨.inr ⟨‹_›, ‹_›⟩, rfl⟩
    · split
      · exact .inr (.inr ⟨‹_›, Nat.le_of_not_lt ‹_›, ‹_›, rfl⟩)
      · exact .inr (.inl ⟨.inr ⟨‹_›, Nat.le_of_not_lt ‹_›, ‹_›⟩, rfl⟩)

end Sys2Proof.Machine
end

