-- ==== Sys2Proof/Laws/Requests.lean ====
section
/-! SUPPORT. Every request command is its frame, judged; and what no request touches. -/

namespace Sys2Proof.Machine

/-- A request's command is the completion of its frame, with the operation of its block (log 4). -/
theorem exec_request {i : Instr} {t : Nat} {l : Link} {tag : Byte} {c : RequestCode} {p : List Byte} (s : State)
    (ha : arrivalOf i = some (t, l, tag)) (he : encodeRequest i = some (c, p)) :
    exec i s = requestCommand t l tag c p (requestOp i) s := by
  cases i <;> simp only [arrivalOf, encodeRequest, Option.some.injEq, Prod.mk.injEq, reduceCtorEq] at ha he <;>
    (obtain ⟨rfl, rfl, rfl⟩ := ha; obtain ⟨rfl, rfl⟩ := he; rfl)

/-- A command that is a request by its operands is one by its payload, and the other way round. -/
theorem arrivalOf_isSome_eq (i : Instr) : (arrivalOf i).isSome = (encodeRequest i).isSome := by
  cases i <;> rfl

/-- A request command always answers a next state: held in reset the same state, in the quiet period only the time passes,
and otherwise its frame is judged. -/
theorem requestCommand_eq (t : Nat) (l : Link) (tag : Byte) (c : RequestCode) (p : List Byte) (op : BlockOp) (s : State) :
    requestCommand t l tag c p op s = .next
      (match s.phase with
       | .held => s
       | .quiet => s.arrive t 0
       | .operating => (s.arrive t 0).judgeFrame l tag (some c) p.length op) := by
  unfold requestCommand whileOutOfReset frameCompletes
  cases h : s.phase <;> simp [h]

end Sys2Proof.Machine
end

