-- ==== Sys2Proof/Laws/SlotEnd.lean ====
section
/-! SUPPORT. What the operations of a slot end can do, said once. -/

namespace Sys2Proof.Machine

/-- Without a measurement, or at a head with no joint bound, the tank judgement changes nothing (R133). -/
theorem State.tankWork_of_none (h : Fin 8) (s : State) : s.tankWork h none = s := rfl

theorem State.tankWork_of_unbound {h : Fin 8} {s : State} (measured : Option Nat) (hb : (s.head h).bound = none) :
    s.tankWork h measured = s := by
  cases measured <;> simp [State.tankWork, State.boundProfile, State.boundJoint, hb]

/-- A judgement that was left is made at a head that still has the slot's joint bound, and not made at any other (R133). -/
theorem State.judgeTank_cases (w : SlotTank) (s : State) :
    ((s.head w.head).bound = w.joint ∧ s.judgeTank w = s.tankWork w.head w.measured) ∨
    ((s.head w.head).bound ≠ w.joint ∧ s.judgeTank w = s) := by
  unfold State.judgeTank
  split
  · exact .inl ⟨‹_›, rfl⟩
  · exact .inr ⟨‹_›, rfl⟩

@[simp] theorem Scheduler.afterGrant_judging (sc : Scheduler) (g : Option Grant) : (sc.afterGrant g).judging = sc.judging := by
  unfold Scheduler.afterGrant; repeat' split
  all_goals rfl

@[simp] theorem State.applySwitch_judging (s : State) : s.applySwitch.sched.judging = s.sched.judging := by
  unfold State.applySwitch; split <;> rfl

@[simp] theorem State.advanceFrame_judging (s : State) : s.advanceFrame.sched.judging = s.sched.judging := by
  unfold State.advanceFrame; dsimp only; split <;> simp

/-- What a SLOT_END does, by what it finds (R96, R107, R133): nothing to end, a judgement left, an idle or cut slot, or a
granted slot that was not cut. -/
theorem slotEnd_cases (t : Nat) (order : SlotEndOrder) (s : State) :
    (s.sched.current = none ∧ s.sched.judging = none ∧ slotEnd t order s = s.arrive t 0) ∨
    (∃ w, s.sched.current = none ∧ s.sched.judging = some w ∧ slotEnd t order s = (s.arrive t 0).completeSlotEnd w) ∨
    (∃ c, s.sched.current = some c ∧
      let s1 := s.arrive t (c.start + s.config.running.slotLength * 1000)
      let s2 := ({ s1 with sched := { s1.sched with current := none } }.setTank .off).setCode 0
      ((c.grant = none ∨ c.cut = true) ∧ slotEnd t order s = s2.advanceFrame ∨
       ∃ g, c.grant = some g ∧ c.cut = false ∧
         slotEnd t order s = s2.slotEndWorks g.head s1.gen.tank.result order)) := by
  unfold slotEnd
  split
  · exact .inl ⟨‹_›, ‹_›, rfl⟩
  · exact .inr (.inl ⟨_, ‹_›, ‹_›, rfl⟩)
  · rename_i c hc
    refine .inr (.inr ⟨c, hc, ?_⟩)
    cases hg : c.grant with
    | none => exact .inl ⟨.inl rfl, rfl⟩
    | some g =>
      cases hcut : c.cut with
      | true => exact .inl ⟨.inr rfl, by simp⟩
      | false => exact .inr ⟨g, rfl, rfl, by simp⟩

end Sys2Proof.Machine
end

