-- ==== Sys2Proof/Laws/Starts.lean ====
section
/-! SUPPORT. What the start of a heating can do, said once, in the terms of the statements. -/

namespace Sys2Proof.Machine

/-- The filtered temperature is the rounded mean of the window (R123). -/
theorem Head.temp_eq_meanOf (hd : Head) : hd.temp = meanOf hd.window := rfl

/-- The setpoint at a start is taken from the lower of T and the target, and from 250 °C where T is absent (R49). -/
theorem startSetpoint_eq (target : Nat) (temp : Option Nat) :
    startSetpoint target temp = match temp with
      | none => 250000
      | some x => min x target * 1000 := by
  unfold startSetpoint
  split
  · rfl
  · split <;> simp [Nat.min_def] <;> omega

/-- A heating start gives the bound record its fields of R49. -/
theorem State.startHeating_eq (h : Fin 8) (target : Nat) (s : State) :
    s.startHeating h target =
      let s' := (s.modBound h (Joint.started (meanOf (s.head h).window) target)).modHead h fun hd =>
        { hd with state := .heating, missed := 0, tankMiss := 0 }
      { s' with power := { s'.power with startRefs := s'.power.startRefs.set h (some s.nowMs) } } := by
  unfold State.startHeating
  simp only [startSetpoint_eq, Head.temp_eq_meanOf]
  rfl

/-- A start test starts the heating of a head that is ready, under its profile's target, and changes nothing at any other. -/
theorem State.testStart_cases (h : Fin 8) (s : State) :
    (∃ p, s.startReady h = true ∧ s.boundProfile h = some p ∧ s.testStart h = s.startHeating h p.fields.target) ∨
    (s.startReady h = false ∧ s.testStart h = s) := by
  unfold State.testStart
  cases hr : s.startReady h with
  | false => exact .inr ⟨rfl, by simp⟩
  | true =>
    cases hp : s.boundProfile h with
    | none => simp [State.startReady, hp] at hr
    | some p => exact .inl ⟨p, rfl, rfl, by simp⟩

end Sys2Proof.Machine
end

