-- ==== Sys2Proof/Tests/Slice0.lean ====
section
/-! SUPPORT. Tests: the spec's worked examples, a smoke test of each well-formedness check, and for each statement with
hypotheses a state and operands that meet them. -/

namespace Sys2Proof.Tests

open Sys2Proof Sys2Proof.Machine

/-! ### Small states -/

/-- The state a command leaves; every command answers one. -/
def run (i : Instr) (s : State) : State :=
  match exec i s with
  | .next s' => s'
  | .fault _ | .refused _ => s

/-- The states a list of commands leads through, in order. -/
def runAll (is : List Instr) (s : State) : State := is.foldl (fun s i => run i s) s

/-- An operating part with nothing in it, one second after its reset. -/
def idle : State := { State.reset with phase := .operating, now := 1000000 }

def key1 : Key := { serial := 1, position := 1 }

/-- Profile 3 of section 2.2. -/
def profile3 : ProfileFields :=
  { target := 740, soakBand := 15, overshoot := 25, solidus := 640, rampRate := 300, soakTime := 1500, kp := 60, ki := 40,
    powerCeiling := 6000, maxEnergy := 150, maxRampTime := 4000, feedLength := 0, feedRate := 200, coolTime := 3000,
    tankMin := 180, tankMax := 260 }

/-- Profile 0 holds these fields, valid. -/
def withProfile (p : ProfileFields) (s : State) : State :=
  { s with profiles := { s.profiles with
      working := s.profiles.working.set 0 { valid := true, fields := p, status := .written } } }

/-- A record of profile 0 with setpoint 612,400 m°C and integral 1,800 W (the example of section 4.3). -/
def joint1 (js : JointState) (head : Option (Fin 8)) : Joint :=
  { newJoint key1 0 with state := js, head := head, setpoint := some 612400, integral := 1800, lastGrant := some 840 }

/-- A cell in RUN whose set A grants head 0. -/
def running (s : State) : State :=
  { s with cell := { s.cell with state := .run }, gen := { s.gen with enable := true },
           sched := { s.sched with setA := [{ head := 0, qualifier := .any }], startDue := some 999000 } }

/-- Slot 0 of the table holds one record. -/
def withJoint (j : Joint) (s : State) : State := { s with table := { s.table with records := [(0, j)] } }

/-- Head 0 stands in a state with key 1 bound, its clamp closed, its flow good. -/
def withHead (hs : HeadState) (window : List Nat) (s : State) : State :=
  s.setHead 0 { Head.atReset with state := hs, bound := some key1, window := window, clampClosed := true, lastFlow := some 14 }

/-- Head 0 heats key 1 in a phase, under profile 0. -/
def heating (p : ProfileFields) (js : JointState) (window : List Nat) : State :=
  withHead .heating window (withJoint (joint1 js (some 0)) (running (withProfile p idle)))


/-- Head 0 cools key 1 until a time. -/
def cooling (js : JointState) (expiry : Nat) : State :=
  let s := withHead .cooling [] (withJoint { joint1 js (some 0) with cause := if js = .rejected then some .supply else none }
    (withProfile profile3 idle))
  s.modHead 0 fun hd => { hd with coolingUntil := some expiry }

/-- Head 0 is LOADED with key 1 PLACED, the cell in HOLD or RUN. -/
def placed (cell : CellState) : State :=
  let s := withHead .loaded [] (withJoint { joint1 .placed (some 0) with lastGrant := none } (withProfile profile3 idle))
  if cell.running then running s else s

/-- Key 1 is PLANNED and head 0 is IDLE, its clamp closed. -/
def planned (cell : CellState) : State :=
  let s := withJoint { joint1 .planned none with lastGrant := none } (withProfile profile3 idle)
  let s := s.setHead 0 { Head.atReset with state := .idle, clampClosed := true }
  if cell.running then running s else s

/-- Key 1 is REJECTED SUPPLY and unbound, its peak at 601 °C (section 11.2). -/
def rejected : State :=
  withJoint { joint1 .rejected none with cause := some .supply, lastTemp := some 598, peakTemp := some 601 }
    (withProfile profile3 idle)

/-- Head 0 heats key 1 in the slot granted to it, after the guard end: P 3,924 W (section 4.6). -/
def powered (p : ProfileFields) (energy : Nat) (measured : TankMeasure) (misses : Nat) : State :=
  let s := runAll [.slotStart 0, .guardEnd 0] { heating p .ramp [578, 579, 581, 582] with now := 999000 }
  ((s.modJoint key1 fun j => { j with energy := energy }).setTank measured).modHead 0 fun hd => { hd with tankMiss := misses }

/-- A table with key 1 alone, and what the commands below change of it. -/
def jointOf (s : State) : Option Joint := s.joint key1

/-- The Cell Link in a transaction that has shifted `n` bytes of the front one of two answers of five bytes. -/
def answering (n : Nat) : State :=
  let s := (idle.queueAnswer .cell (answerFrame .ok 1 [])).queueAnswer .cell (answerFrame .ok 2 [])
  { s with port := { s.port with transaction := some (.answer n) } }

/-- A test of every element of a list, made element by element. -/
theorem forall_of_all {α : Type} {p : α → Prop} [DecidablePred p] {l : List α} (h : (l.all fun x => p x) = true) :
    ∀ x ∈ l, p x := fun x hx => of_decide_eq_true (List.all_eq_true.mp h x hx)

/-! ### Worked examples of the spec -/

/-- Section 8.2: the frame of Read Cell with tag 0x01. -/
theorem test_frame_of_read_cell :
    encodeFrame 0x01 (.readCell 0 .cell 0x01) = some [0xC3, 0x00, 0x54, 0x01, 0x5F] := by decide +kernel

/-- Section 8.7: a Bind's payload is a 3-byte serial, a position and a head, most significant byte first. -/
theorem test_decode_bind :
    decodeRequest 0 .cell 7 .bind [0x12, 0x34, 0x56, 0x78, 0x05] =
      .bind 0 .cell 7 { serial := 0x123456, position := 0x78 } 0x05 := by decide +kernel

/-- Section 8.7: a Find's payload is a code, a mask, a state set and a start slot. -/
theorem test_decode_find :
    decodeRequest 0 .inspection 7 .find [0, 0, 1, 2, 0xFF, 0xFF, 0xFF, 0, 0xC0, 0x01, 0x02] =
      .find 0 .inspection 7 { serial := 1, position := 2 } { serial := 0xFFFFFF, position := 0 } 0xC0 0x0102 := by
  decide +kernel

/-- Section 4.6, case A: T 580, S 612, Δ 160 ms and I 1,800 give I 2,004, P 3,924 W and code 803. -/
theorem test_guard_end_case_a :
    ((powered profile3 0 .off 0).power.account.map fun a => (a.demand, a.code)) = some (3924, 803) ∧
    (jointOf (powered profile3 0 .off 0)).map Joint.integral = some 2004 := by decide +kernel

/-- Section 4.6, case A: the slot end adds 3,924 W for 19 ms, 74,556 mJ. -/
theorem test_slot_end_energy :
    (jointOf (run (.slotEnd 0 .energyFirst) (powered profile3 0 .off 0))).map Joint.energy = some 74556 := by decide +kernel

/-- Section 6.5 (R133): a clamp opening taken between the energy of a slot end and its tank judgement finds the full energy
charged and the joint still heating; the judgement is then not made. -/
theorem test_clamp_opening_between_the_works :
    let s := runAll (.slotEnd 0 .energyAlone :: List.replicate 4 (.periodClose 0 0 false) ++ [.slotEnd 0 .energyAlone])
      (powered profile3 0 (.ended 17999) 1)
    (jointOf s).map (fun j => (j.state, j.cause, j.energy)) = some (.rejected, some .clampLost, 74556) ∧
    ((s.head 0).state, (s.head 0).lastTank) = (.idle, none) ∧ s.sched.judging = none ∧ s.sched.startDue = some s.now := by
  decide +kernel

/-- Section 6.5 (R133): a judgement left with nothing taken in between faults the head TANK at the second miss. -/
theorem test_left_judgement_faults :
    let s := runAll [.slotEnd 0 .energyAlone, .slotStart 0, .slotEnd 0 .energyAlone] (powered profile3 0 (.ended 17999) 1)
    ((s.head 0).faultCause, (s.head 0).lastTank) = (some .tank, some 17999) ∧
    (jointOf s).map (fun j => (j.cause, j.energy)) = some (some .coupling, 74556) := by decide +kernel

/-- Section 4.7: a cut 7.6 ms after the guard end charges 7 ms, 27,468 mJ, to the 41,250 mJ before. -/
theorem test_overheat_cut_energy :
    (jointOf (runAll [.readingReceived 0 0 .over 0 true false, .periodClose 1007600 0 true] (powered profile3 41250 .off 0))).map
      (fun j => (j.state, j.cause, j.energy)) = some (.rejected, some .overheat, 68718) := by decide +kernel

/-- Section 4.4: the integral step truncates toward zero. -/
theorem test_integral_step_truncates : integralStep 40 (-3) 170 = -20 := by decide

/-- Section 11.1: E 42, Δ 20 and I 3,200 under Kp 80, Ki 50 give I 3,242, P 6,602 W and code 1,352. -/
theorem test_demand_at_3081 :
    let p := { profile3 with target := 760, kp := 80, ki := 50, powerCeiling := 9000 }
    newIntegral p 42 20 3200 9000 = 3242 ∧ demand p 42 3242 9000 = 6602 ∧ demandCode 6602 20000 = 1352 := by decide

/-- Section 6.2: windows 250, 250, 262 and 250, 262, 270, 281 give T 254 and 266. -/
theorem test_filtered_temperature :
    windowMean [250, 250, 262] = some 254 ∧ windowMean [250, 262, 270, 281] = some 266 ∧
    pushReading [250, 250, 262, 270] 281 = [250, 262, 270, 281] := by decide

/-- Section 3.6: feed rate 350, length 40, accumulator 300 and filler fed 37 give one step and no remainder. -/
theorem test_feed_close :
    let s := heating { profile3 with feedLength := 40, feedRate := 350 } .feed [740, 740, 740, 740]
    let s := s.modJoint key1 fun j => { j with fillerFed := 37, feedAcc := 300 }
    let s := runAll [.readingReceived 0 0 .valid 740 true false, .periodClose 0 0 true] s
    ((jointOf s).map fun j => (j.fillerFed, j.feedAcc)) = some (38, 0) ∧ (s.head 0).stepsWaiting = 1 := by decide +kernel

/-- Section 3.4: a close in RAMP raises the setpoint by 2 × the ramp rate. -/
theorem test_ramp_close :
    let s := runAll [.readingReceived 0 0 .valid 580 true false, .periodClose 0 0 true]
      (heating profile3 .ramp [578, 579, 581, 582])
    (jointOf s).map (fun j => (j.setpoint, j.phaseElapsed, j.lastTemp)) = some (some 613000, 2, some 580) := by decide +kernel

/-- Section 11.3: the fourth open sample rejects a joint in COOL EARLY_RELEASE and frees the head. -/
theorem test_early_release :
    let s := runAll (List.replicate 4 (.periodClose 0 0 false)) (cooling .cool 9000000)
    (jointOf s).map (fun j => (j.state, j.cause, j.head)) = some (.rejected, some .earlyRelease, none) ∧
    (s.head 0).state = .idle := by decide +kernel

/-- Section 11.3: a timer that expires first leaves the joint DONE, and the flip then only unbinds. -/
theorem test_cooling_done :
    let s := runAll (.coolingTimerExpiry 0 0 :: List.replicate 4 (.periodClose 0 0 false)) (cooling .cool 1001000)
    (jointOf s).map (fun j => (j.state, j.cause, j.head)) = some (.done, none, none) ∧ (s.head 0).state = .idle := by
  decide +kernel

/-- Section 11.2: the trip of a heating joint, with its output cut 11.4 ms after the guard end. -/
theorem test_supply_trip :
    let s := runAll (List.replicate 4 (.dcLinkSample 1008400 ⟨469999, by decide⟩ true)) (powered profile3 38900 .off 0)
    s.cell.state = .tripped ∧ s.gen.enable = false ∧ (s.events.get 1).count = 1 ∧
    (jointOf s).map (fun j => (j.state, j.cause, j.energy)) = some (.rejected, some .supply, 82064) := by decide +kernel

/-- Section 7.2: the warning sets at the fourth sample below 520 V and not before. -/
theorem test_warning_at_fourth_sample :
    (runAll (List.replicate 3 (.dcLinkSample 0 ⟨519999, by decide⟩ true)) (running idle)).cell.state = .run ∧
    (runAll (List.replicate 4 (.dcLinkSample 0 ⟨519999, by decide⟩ true)) (running idle)).cell.state = .derated := by
  decide +kernel

/-- Section 6.4: two low windows in a row fault the head FLOW; a reading of 10 pulses is not low. -/
theorem test_flow_fault :
    let low := List.replicate 9 (Instr.flowPulse 0 0) ++ [.flowWindowClose 0 0]
    let s := runAll (low ++ low) (heating profile3 .soak [730])
    (s.head 0).faultCause = some .flow ∧ (jointOf s).bind Joint.cause = some .coolant := by decide +kernel

/-- Section 11.2: a Rearm is refused at a peak of 743 over a solidus of 640, and taken at 601. -/
theorem test_rearm_peak :
    (jointOf (run (.rearm 0 .cell 1 key1) (rejected.modJoint key1 fun j => { j with peakTemp := some 743 }))).map Joint.state =
      some .rejected ∧
    (jointOf (run (.rearm 0 .cell 1 key1) rejected)).map (fun j => (j.state, j.reheats)) = some (.planned, 1) := by
  decide +kernel

/-- Section 11.4: the Inspection Link retires no record without a verdict; the Cell Link does. -/
theorem test_retire_needs_verdict :
    (run (.retire 0 .inspection 1 key1) rejected).liveCount = 1 ∧
    (runAll [.setVerdict 0 .inspection 1 key1 2, .retire 0 .inspection 1 key1] rejected).liveCount = 0 ∧
    (run (.retire 0 .cell 1 key1) rejected).liveCount = 0 := by decide +kernel

/-- Section 1.4: with slots 0, 1 and 3 live, three entries take slots 2, 4 and 5. -/
theorem test_create_takes_lowest :
    (createRecords 9 [(12, 3), (13, 3), (14, 7)]
      [(0, newJoint key1 0), (1, newJoint key1 0), (3, newJoint key1 0)]).1 = [2, 4, 5] := by decide +kernel

/-- Section 5.3: a scheduled head is granted even when it is satisfied, source SCHEDULED. -/
theorem test_scheduled_when_satisfied :
    (run (.slotStart 0) (heating profile3 .soak [741])).sched.current.bind (·.grant) =
      some { head := 0, source := .scheduled } := by decide +kernel

/-- Section 8.6: five requests on the Inspection Link; a Bind there is DENIED. -/
theorem test_denied :
    (run (.bind 0 .inspection 7 key1 0) (planned .hold)).inspLink.answers = [answerFrame .denied 7 []] ∧
    (run (.bind 0 .inspection 7 key1 0) (planned .hold)).table = (planned .hold).table := by decide +kernel

/-- Section 10.4: the defaults flag set, and the answer of an Identify while they run. -/
theorem test_identify_defaults :
    (run (.identify 0 .inspection 7) idle).inspLink.answers = [answerFrame .ok 7 [0x0B, 0x28, 0x01, 1]] := by decide +kernel

/-- Section 9.1: a raise counts, and saturates at 255. -/
theorem test_raise_saturates :
    ({ pending := true, count := 255, level := 1 : EventEntry }).raised = { pending := true, count := 255, level := 1 } ∧
    ({ pending := false, count := 0, level := 1 : EventEntry }).raised = { pending := true, count := 1, level := 1 } := by
  decide

/-! ### Well-formedness: one ill-formed term for each check -/

/-- R165, R166: the byte that shifts out an answer's last byte frees its place, and the next answer's start byte follows. -/
theorem test_last_byte_frees_the_place :
    (run (.linkByteCompletes 0 .cell 0x00) (answering 4)).cellLink.answers.length = 1 ∧
    (runAll [.linkByteCompletes 0 .cell 0x00, .linkByteCompletes 0 .cell 0x00] (answering 4)).port.dout = 0xC3 := by
  decide +kernel

/-- R168: an answer of five bytes takes fifty bit times at 115,200 baud, 434.03 µs. -/
theorem test_answer_takes_its_bit_times :
    let s := run (.answerSent 0 .inspection) (idle.queueAnswer .inspection (answerFrame .ok 1 []))
    s.now = 1000435 ∧ s.driven = [.transmit (answerFrame .ok 1 [])] ∧ s.inspLink.answers = [] := by decide +kernel

theorem test_wf_refuses_long_payload :
    (Instr.createJoints 0 .cell 1 1 (List.replicate 124 (0, 0))).wellFormed = false := by decide +kernel
theorem test_wf_refuses_named_code : (Instr.unknownRequest 0 .cell 1 0x54).wellFormed = false := by decide +kernel
theorem test_wf_refuses_short_length : (Instr.frameWrongLength 0 .cell 250).wellFormed = false := by decide +kernel
theorem test_wf_accepts :
    (Instr.createJoints 0 .cell 1 1 (List.replicate 123 (0, 0))).wellFormed = true ∧
    (Instr.unknownRequest 0 .cell 1 0x55).wellFormed = true ∧
    (Instr.frameWrongLength 0 .cell 251).wellFormed = true := by decide +kernel

/-! ### For each statement with hypotheses, a state and operands that meet them

Where a statement has several clauses, each clause has its own, at a boundary of its range. -/

theorem witness_EveryCommandAnswersANextState :
    ({ idle with phase := .held } : State).phase = .held ∧ Instr.start 0 .cell 1 ≠ .hardwareReset ∧
    Instr.start 0 .cell 1 ≠ .resetAssertedOrPowerLost ∧ (∀ t, Instr.start 0 .cell 1 ≠ .transactionBegin t) ∧
    ∀ t, Instr.start 0 .cell 1 ≠ .transactionEnd t :=
  ⟨rfl, by decide, by decide, fun _ h => (nomatch h), fun _ h => (nomatch h)⟩

/-- The quiet period, with an open transaction, and the part after it. -/
theorem witness_ResetIsHeldAndTheQuietPeriodEnds :
    State.reset.phase = .quiet ∧ idle.phase = .operating ∧ arrivalOf (.start 0 .cell 7) = some (0, .cell, 7) ∧
    State.reset.port.transaction = none ∧
    (let s := run (.transactionBegin 0) State.reset
     s.phase = .quiet ∧ s.QuietOk ∧ s.port.transaction = some .filler ∧ s.port.ahead = false) := by decide

/-- A full queue, a request in progress, a link that may not, a length that does not suit, and a request that is taken. -/
theorem witness_RequestsAreJudgedInOrder :
    arrivalOf (.storeProfiles 0 .inspection 7) = some (0, .inspection, 7) ∧
    encodeRequest (.storeProfiles 0 .inspection 7) = some (.storeProfiles, []) ∧ idle.phase = .operating ∧
    ((idle.queueAnswer .inspection []).queueAnswer .inspection []).inspLink.hasPlace = false ∧
    (idle.setInProgress .cell (some { request := .storeProfiles, tag := 1 })).cellLink.hasPlace = true ∧
    (idle.setInProgress .cell (some { request := .storeProfiles, tag := 1 })).cellLink.inProgress.isSome = true ∧
    (idle.Takes .inspection ∧ RequestCode.storeProfiles.permittedOn .inspection = false) ∧
    (idle.Takes .cell ∧ RequestCode.createJoints.permittedOn .cell = true ∧
      RequestCode.createJoints.lengthSuits (word24Bytes 1 ++ pairBytes (List.replicate 124 (0, 0))).length = false ∧
      RequestCode.createJoints.lengthSuits (word24Bytes 1 ++ pairBytes (List.replicate 123 (0, 0))).length = true) := by
  decide +kernel

theorem witness_RefusedRequestsChangeNothing :
    requestOp (.unbind 0 .cell 7 key1) idle = (idle, some (refusal .notFound)) ∧ (refusal .notFound).status ≠ .ok := by
  decide +kernel

theorem witness_DecodeUndoesEncode :
    arrivalOf (.createJoints 5 .cell 7 9 [(1, 2)]) = some (5, .cell, 7) ∧
    encodeRequest (.createJoints 5 .cell 7 9 [(1, 2)]) = some (.createJoints, [0, 0, 9, 1, 2]) := by decide +kernel

/-- A store under way, all but one of its profiles written. -/
def storing (written : Nat) : State :=
  let s := run (.storeProfiles 0 .cell 7) idle
  { s with profiles := { s.profiles with store := s.profiles.store.map fun r => { r with written := written } } }

/-- Section 8.2's frame, its last byte 5 ms after the one before it: on each link, with CL_SEL low, and with the last byte
of an answer going out in the same clocks. -/
theorem witness_LastByteOfAFrameIsItsRequest :
    let s := fun l => (answering 4).setReceiver l (.collecting [0xC3, 0x00, 0x54, 0x01] 1000000)
    (s .cell).phase = .operating ∧ RequestCode.readCell.lengthSuits 0 = true ∧
    ((s .cell).link .cell).receiver = .collecting [0xC3, 0x00, 0x54, 0x01] 1000000 ∧
    ((s .inspection).link .inspection).receiver = .collecting [0xC3, 0x00, 0x54, 0x01] 1000000 ∧
    [0xC3, 0x00, 0x54, 0x01] ++ [0x5F] = frameBytes RequestCode.readCell.toByte 0x01 [] ∧
    max (s .cell).now 1005000 ≤ 1000000 + 5000 ∧ (s .cell).port.transaction.isSome = true ∧ (s .cell).port.ahead = false ∧
    4 + 1 = (s .cell).frontAnswer.length := by decide +kernel

/-- Frames that end otherwise, each on a link that holds the bytes before its last: a length byte of 251; a check byte that
disagrees; the code 0x55, which names no request; and a Lookup with an empty payload, with a place, in a store, with no place and,
as an Abort with none, over the Inspection Link. -/
theorem witness_LastByteOfAFrameIsItsRequest_ends :
    let s := fun held => idle.setReceiver .inspection (.collecting held 1000000)
    (∀ held : List Byte, (s held).phase = .operating ∧ ((s held).link .inspection).receiver = .collecting held 1000000 ∧
      max (s held).now 1005000 ≤ 1000000 + 5000) ∧
    (([0xC3] : List Byte).length = 1 ∧ 250 < (251 : Byte).toNat) ∧
    (([0xC3, 0, 0x54, 1] : List Byte).length = (byteAt [0xC3, 0, 0x54, 1] 1).toNat + 4 ∧
      (0x5E : Byte) ≠ crc8 ([0xC3, 0, 0x54, 1].drop 1)) ∧
    ([0xC3, 0, 0x55, 1] ++ [crc8 [0, 0x55, 1]] = frameBytes 0x55 1 [] ∧ ∀ c : RequestCode, c.toByte ≠ 0x55) ∧
    (RequestCode.lookup.lengthSuits 0 = false ∧
      [0xC3, 0, 0x11, 1] ++ [crc8 [0, 0x11, 1]] = frameBytes RequestCode.lookup.toByte 1 []) ∧
    ((s [0xC3, 0, 0x11, 1]).link .inspection).hasPlace = true ∧
    (((idle.queueAnswer .cell []).queueAnswer .cell []).link .cell).hasPlace = false ∧
    ((storing 0).cellLink.hasPlace = true ∧ (storing 0).cellLink.inProgress.isSome = true) ∧
    (RequestCode.abort.lengthSuits 0 = false ∧ RequestCode.abort ∉ [.lookup, .find, .setVerdict, .retire, .identify]) :=
  ⟨fun _ => ⟨rfl, rfl, (by decide : max 1000000 1005000 ≤ 1000000 + 5000)⟩, by decide, by decide +kernel, ⟨by decide +kernel, fun c => by cases c <;> decide⟩,
    by decide +kernel, by decide, by decide, by decide +kernel, by decide⟩

/-- A link that waits, with CL_SEL high and with an answer shifting; the largest length byte; a byte 5 ms later, and one
1 µs later than that, also where the last answer leaves with it and the FRAME answer follows, and where it goes out on IL_TX at
once. -/
theorem witness_BytesAreCollected :
    idle.phase = .operating ∧ idle.port.transaction = none ∧ (idle.link .inspection).receiver = .waiting ∧
    ((answering 3).phase = .operating ∧ (answering 3).port.transaction.isSome = true ∧
      (answering 3).cellLink.receiver = .waiting) ∧
    (let s := idle.setReceiver .inspection (.collecting [0xC3] 1000000)
     (s.link .inspection).receiver = .collecting [0xC3] 1000000 ∧ max s.now 1005000 ≤ 1000000 + 5000 ∧
     (([0xC3] : List Byte).length = 1 ∧ (250 : Byte).toNat ≤ 250) ∧ 1000000 + 5000 < max s.now 1005001 ∧ s.LinksOk) ∧
    ((answering 4).setReceiver .cell (.collecting [0xC3] 1000000)).LinksOk ∧
    (let s := (run (.linkByteCompletes 0 .cell 0) (answering 4)).setReceiver .cell (.collecting [0xC3] 1000000)
     let s := { s with port := { s.port with transaction := some (.answer 4) } }
     s.LinksOk ∧ s.phase = .operating ∧ s.cellLink.answers.tail = [] ∧ s.cellLink.hasPlace = true ∧ s.port.ahead = false) ∧
    (idle.inspLink.answers = [] ∧ idle.inspLink.hasPlace = true) ∧
    (2 ≤ ([0xC3, 1, 0x11, 7] : List Byte).length ∧
     ([0xC3, 1, 0x11, 7] : List Byte).length < (byteAt [0xC3, 1, 0x11, 7] 1).toNat + 4) := by decide +kernel

/-- An unknown code at a link that hands frames on, at one whose queue has no place, and at one with a store in progress. -/
theorem witness_FramesThatReachNoBlockAreAnswered :
    (let full := (idle.queueAnswer .cell []).queueAnswer .cell []
     full.phase = .operating ∧ (full.link .cell).hasPlace = false) ∧
    ((storing 0).phase = .operating ∧ ((storing 0).link .cell).hasPlace = true ∧
      ((storing 0).link .cell).inProgress.isSome = true) ∧
    idle.phase = .operating ∧ 250 < (251 : Byte).toNat ∧ idle.Takes .cell ∧
    ((idle.setReceiver .cell (.collecting [0xC3] 7)).link .cell).receiver = .collecting [0xC3] 7 ∧
    (∀ c : RequestCode, c.toByte ≠ 0x55) ∧ (250 : Byte).toNat ≤ 250 ∧ (∃ r : RequestCode, r.toByte = 0x54) ∧
    (idle.link .inspection).receiver = .waiting :=
  ⟨by decide, by decide, rfl, by decide, by decide, rfl, fun c => by cases c <;> decide, by decide, ⟨.readCell, rfl⟩, rfl⟩

/-- Two answers on the Inspection Link, and none; the last byte of an answer, and the one before it; a byte ahead already, and
0x00 shifted. -/
theorem witness_AnswersLeaveOldestFirst :
    let i := (idle.queueAnswer .inspection (answerFrame .ok 1 [])).queueAnswer .inspection (answerFrame .ok 2 [])
    (i.phase ≠ .held ∧ i.inspLink.answers = [answerFrame .ok 1 [], answerFrame .ok 2 []] ∧ i.txSince = some 1000000) ∧
    (idle.phase ≠ .held ∧ idle.inspLink.answers = [] ∧ idle.port.transaction = none) ∧
    ((answering 4).phase ≠ .held ∧ (answering 4).port.transaction = some (.answer 4) ∧ (answering 4).port.ahead = false ∧
      (answering 4).cellLink.answers = [answerFrame .ok 1 [], answerFrame .ok 2 []]) ∧
    4 + 1 = (answerFrame .ok 1 []).length ∧ (answering 3).port.transaction = some (.answer 3) ∧
    3 + 1 ≠ (answerFrame .ok 1 []).length ∧ (run (.answerSent 0 .cell) (answering 4)).port.ahead = true ∧
    (run (.transactionBegin 0) idle).port.transaction = some .filler := by decide +kernel

/-- Thirty-two entries of distinct positions. -/
def entries32 : List (Byte × Byte) :=
  [(0, 31), (1, 30), (2, 29), (3, 28), (4, 27), (5, 26), (6, 25), (7, 24), (8, 23), (9, 22), (10, 21), (11, 20), (12, 19), (13, 18), (14, 17), (15, 16),
   (16, 15), (17, 14), (18, 13), (19, 12), (20, 11), (21, 10), (22, 9), (23, 8), (24, 7), (25, 6), (26, 5), (27, 4), (28, 3), (29, 2), (30, 1), (31, 0)]

/-- One entry and thirty-two entries. -/
theorem witness_CreateJointsTakesTheLowestFreeSlots :
    (idle.Takes .cell ∧ idle.TableOk) ∧ (1 ≤ entries32.length ∧ entries32.length ≤ 32) ∧ (∀ e ∈ entries32, e.2.toNat ≤ 31) ∧
    (entries32.map Prod.fst).Nodup ∧ (∀ e ∈ entries32, idle.joint { serial := 1, position := e.1 } = none) ∧
    idle.liveCount + entries32.length ≤ 512 ∧ ([(0, 0)] : List (Byte × Byte)).length = 1 :=
  ⟨by decide, by decide, forall_of_all (by decide), by decide +kernel, forall_of_all (by decide +kernel), by decide, rfl⟩

/-- A table with records in slots 0 to n − 1. -/
def filled (n : Nat) : State :=
  { idle with table := { idle.table with
      records := (List.range n).map fun i => (i, newJoint { serial := BitVec.ofNat 24 (i + 2), position := 0 } 0) } }

/-- No entry, thirty-three entries, a profile above 31, a key held, a key repeated, and one free slot too few. -/
theorem witness_CreateJointsIsRefusedByItsFirstFailedCheck :
    idle.Takes .cell ∧ ([] : List (Byte × Byte)).length < 1 ∧ 32 < (List.replicate 33 ((0, 0) : Byte × Byte)).length ∧
    (∃ e, ([(0, 31), (1, 32)] : List (Byte × Byte))[1]? = some e ∧ 31 < e.2.toNat) ∧
    (rejected.joint { serial := 1, position := 1 }).isSome = true ∧
    (∃ e, ([(5, 0), (5, 1)] : List (Byte × Byte))[1]? = some e ∧ ∃ m e', m < 1 ∧
      ([(5, 0), (5, 1)] : List (Byte × Byte))[m]? = some e' ∧ e'.1 = e.1) ∧
    512 < (filled 511).liveCount + ([(0, 0), (1, 0)] : List (Byte × Byte)).length :=
  ⟨by decide, by decide, by decide, ⟨_, rfl, by decide⟩, by decide, ⟨_, rfl, 0, _, by decide, rfl, rfl⟩,
    by simp [filled, State.liveCount]⟩

theorem witness_LookupAnswersTheRecord : rejected.Takes .cell ∧ rejected.Takes .inspection ∧
    (rejected.slotOf key1).isSome = true ∧ idle.slotOf key1 = none := by decide

/-- The lowest and the highest start slot, and the two that are refused. -/
theorem witness_FindAnswersTheMatches : rejected.Takes .inspection ∧ (0x80 : Byte) ≠ 0 ∧ (0 : Word16).toNat ≤ 511 ∧
    (511 : Word16).toNat ≤ 511 ∧ 511 < (512 : Word16).toNat := by decide

theorem witness_BindAndUnbindActOnBoth :
    ((planned .hold).Takes .cell ∧ (planned .hold).TableOk ∧ headOf 0 = some 0 ∧ (planned .hold).joint key1 ≠ none) ∧
    ((planned .run).Takes .cell ∧ (planned .run).TableOk ∧ headOf 8 = none) ∧
    ((placed .hold).Takes .cell ∧ (placed .hold).TableOk ∧ (placed .hold).BindingsOk ∧
      ((placed .hold).joint key1).map Joint.state = some .placed) := by decide +kernel

theorem witness_SetVerdictIsTakenOnce : rejected.Takes .cell ∧ rejected.Takes .inspection ∧ rejected.TableOk ∧
    ¬ ((1 : Byte) = 0 ∨ 3 < (1 : Byte).toNat) ∧ ¬ ((3 : Byte) = 0 ∨ 3 < (3 : Byte).toNat) ∧ 3 < (4 : Byte).toNat := by decide

/-- A record that passes, at a peak one below the solidus, and one that does not. -/
theorem witness_RearmReturnsARecordToPlanned :
    rejected.Takes .cell ∧ rejected.TableOk ∧ idle.joint key1 = none ∧
    (let s := rejected.modJoint key1 fun j => { j with peakTemp := some 639 }
     ∃ j, s.joint key1 = some j ∧ j.state = .rejected ∧ j.head = none ∧ j.verdict = none ∧
      (∃ c, j.cause = some c ∧ c ∈ [.clampLost, .sampleLoss, .coupling, .coolant, .supply, .generator, .aborted]) ∧
      j.reheats < 2 ∧ (∃ x, j.peakTemp = some x ∧ (s.profileOf j).valid = true ∧ x < (s.profileOf j).fields.solidus)) ∧
    (∃ j, (planned .hold).joint key1 = some j ∧ ¬ j.state = .rejected) :=
  ⟨by decide, by decide, by decide,
   ⟨_, rfl, rfl, rfl, rfl, ⟨_, rfl, by decide⟩, by decide, ⟨639, rfl, by decide, by decide⟩⟩, ⟨_, rfl, by decide⟩⟩

theorem witness_RetiringRemovesUnboundRecords : rejected.Takes .cell ∧ rejected.Takes .inspection ∧ rejected.TableOk ∧
    ((rejected.modJoint key1 fun j => { j with verdict := some .scrap }).joint key1).any (fun j => j.verdict.isSome) = true := by
  decide

/-- The words of profile 3, and of it with its target at 449 °C. -/
def words3 (target : Word16) : Vector Word16 16 :=
  #v[target, 15, 25, 640, 300, 1500, 60, 40, 6000, 150, 4000, 0, 200, 3000, 180, 260]

/-- Every word at the low edge of its range, every word at the high edge, and each edge passed by one, the three rules between
two fields among them. -/
theorem witness_WriteProfileReplacesTheWorkingProfile :
    let tests := fun ws : Vector Word16 16 => (ProfileFields.ofWords ws).tests
    let low : Vector Word16 16 := #v[450, 5, 5, 400, 10, 0, 0, 0, 100, 100, 500, 0, 10, 0, 100, 101]
    let high : Vector Word16 16 :=
      #v[1050, 50, 50, 1050, 1000, 10000, 500, 200, 30000, 60000, 30000, 500, 1000, 20000, 599, 600]
    let at' := fun (ws : Vector Word16 16) (i : Fin 16) (w : Word16) => (tests (ws.set i w))[i.val]?
    idle.Takes .cell ∧ profileNumberOf 31 = some 31 ∧ profileNumberOf 32 = none ∧ (1 : Byte).getLsbD 0 = true ∧
    (∀ ok ∈ tests low, ok = true) ∧ (∀ ok ∈ tests high, ok = true) ∧ at' low 0 449 = some false ∧ at' high 0 1051 = some false ∧
    at' low 1 4 = some false ∧ at' high 1 51 = some false ∧ at' low 2 4 = some false ∧ at' low 2 101 = some false ∧
    at' high 2 51 = some false ∧ at' low 3 399 = some false ∧ at' low 3 451 = some false ∧ at' high 4 1001 = some false ∧
    at' high 5 10001 = some false ∧ at' high 8 30001 = some false ∧ at' low 14 99 = some false ∧
    at' high 15 601 = some false ∧ at' high 15 599 = some false := by decide +kernel

theorem witness_StoreProfilesWritesWhatItCaptured :
    idle.Takes .cell ∧ (storing 31).phase ≠ .held ∧ ((storing 31).profiles.store.any fun r => r.written < 32) = true ∧
    (storing 32).cellLink.inProgress = some { request := .storeProfiles, tag := 7 } ∧
    (storing 32).profiles.store.isSome = true ∧ idle.phase ≠ .held ∧ idle.profiles.store = none := by decide +kernel

/-- Head 0 heats with a VALID reading kept. -/
def closing (p : ProfileFields) (js : JointState) (temp : Nat) (f : Joint → Joint) : State :=
  ((heating p js [temp, temp, temp]).modJoint key1 f).modHead 0 fun hd => { hd with kept := some (.valid temp) }

/-- A state that meets the hypotheses which the statements of a HEATING head's close share: the reading counts, or the miss
stays below the limit. -/
abbrev Closes (js : JointState) (p : ProfileFields) (clampHigh : Bool) (s : State) : Prop :=
  let hd := (s.head 0).afterClose (countsAs (s.head 0).kept) clampHigh s.now
  s.phase ≠ .held ∧ s.TableOk ∧ (s.head 0).state = .heating ∧ (s.head 0).bound = some key1 ∧
  (s.joint key1).map (fun j => (j.state, (s.profileOf j).fields)) = some (js, p) ∧ (s.head 0).clampClosed = true ∧
  (s.head 0).clampHolds clampHigh s.config.running.clampFilter ∧ hd.missed < s.config.running.sampleLoss ∧
  s.BindingsOk ∧ s.OutputOk

/-- Below the band; at its edge with a soak and with none; at the ramp time and one close past it; an UNDER reading; the
fourth missed period of a limit of 5, at the third open sample of a filter of 4. -/
theorem witness_RampCloseLeadsTheJoint :
    let edge := fun p elapsed => closing p .ramp 725 fun j => { j with phaseElapsed := elapsed }
    let short := { profile3 with soakTime := 0 }
    let under := (closing profile3 .ramp 300 id).modHead 0 fun hd => { hd with kept := some .under }
    let missed := (closing profile3 .ramp 765 id).modHead 0 fun hd => { hd with kept := none, missed := 3, clampCount := 2 }
    Closes .ramp profile3 true (edge profile3 3998) ∧ Closes .ramp short true (edge short 4000) ∧
    Closes .ramp profile3 true under ∧ Closes .ramp profile3 false missed ∧
    (meanOf (((edge profile3 3998).head 0).afterClose (some 725) true 0).window = some 725 ∧
      profile3.target ≤ 725 + profile3.soakBand ∧ ¬ profile3.target ≤ 724 + profile3.soakBand) ∧
    (meanOf ((missed.head 0).afterClose none false 0).window = some 765 ∧ 765 ≤ profile3.target + profile3.overshoot) ∧
    min 65535 (3998 + 2) ≤ profile3.maxRampTime ∧ short.maxRampTime < min 65535 (4000 + 2) ∧ 0 < profile3.soakTime ∧
    short.soakTime = 0 ∧ short.feedLength = 0 := by
  and_intros <;> decide +kernel

/-- SOAK short of its time, at it with and without a feed; FEED out of band, short of its length, and at it; a held T. -/
theorem witness_SoakAndFeedClosesCountInBand :
    let fed := { profile3 with feedLength := 5, feedRate := 1000 }
    let held := fun s : State => s.modHead 0 fun hd => { hd with kept := some .bad, missed := 3 }
    let s := closing profile3 .soak 725 fun j => { j with soaked := 1498 }
    let f := closing fed .feed 725 fun j => { j with fillerFed := 4 }
    Closes .soak profile3 true s ∧ Closes .soak profile3 true (held s) ∧ Closes .feed fed true f ∧
    Closes .feed fed true (held f) ∧ (s.head 0).kept = some (.valid 725) ∧
    meanOf ((f.head 0).afterClose (some 725) true 0).window = some 725 ∧ 725 ≤ profile3.target + profile3.overshoot ∧
    min (1498 + 2) profile3.soakTime = profile3.soakTime ∧ min (1496 + 2) profile3.soakTime ≠ profile3.soakTime ∧
    profile3.feedLength = 0 ∧ 0 < fed.feedLength ∧
    fed.target ≤ 725 + fed.soakBand ∧ ¬ fed.target ≤ 724 + fed.soakBand ∧
    fed.feedLength ≤ 4 + min ((0 + 2 * fed.feedRate) / 1000) (fed.feedLength - 4) ∧
    0 + min ((0 + 2 * fed.feedRate) / 1000) (fed.feedLength - 0) < fed.feedLength := by
  and_intros <;> decide +kernel

/-- An OVER reading; a T one above the limit, read and held; the fifth period missed, also at a head that holds the output and
whose clamp sample completes its run. -/
theorem witness_ReadingsEndAHeating :
    let s := closing profile3 .soak 766 id
    let o := s.modHead 0 fun hd => { hd with kept := some .over }
    let held := s.modHead 0 fun hd => { hd with kept := none, missed := 3 }
    let m := s.modHead 0 fun hd => { hd with kept := some .bad, missed := 4 }
    let c := (powered profile3 0 .armed 0).modHead 0 fun hd => { hd with missed := 4, clampCount := 3, stepsWaiting := 2 }
    Closes .soak profile3 true s ∧ Closes .soak profile3 true o ∧ Closes .soak profile3 true held ∧
    ((o.head 0).kept = some .over ∧ meanOf ((s.head 0).afterClose (some 766) true 0).window = some 766 ∧
      meanOf ((held.head 0).afterClose none true 0).window = some 766 ∧
      profile3.target + profile3.overshoot < 766 ∧ JointState.soak.heating = true) ∧
    (m.phase ≠ .held ∧ m.TableOk ∧ (m.head 0).state = .heating ∧ (m.head 0).bound = some key1 ∧
      countsAs (m.head 0).kept = none ∧ m.config.running.sampleLoss ≤ min 15 ((m.head 0).missed + 1) ∧
      m.BindingsOk ∧ m.OutputOk) ∧
    ((c.phase ≠ .held ∧ c.TableOk ∧ (c.head 0).state = .heating ∧ (c.head 0).bound = some key1 ∧
      (c.joint key1).map Joint.state = some .ramp) ∧ (c.BindingsOk ∧ c.OutputOk) ∧ c.grantedTo 0 = true ∧
      countsAs (c.head 0).kept = none ∧ c.config.running.sampleLoss ≤ min 15 ((c.head 0).missed + 1) ∧
      false ≠ (c.head 0).clampClosed ∧ c.config.running.clampFilter ≤ (c.head 0).clampCount + 1) ∧
    (powered profile3 0 .off 0).grantedTo 0 = true ∧ (powered profile3 0 .off 0).OutputOk := by
  and_intros <;> decide +kernel

/-- The third and the fourth open sample of a filter of 4, with a reading and without; a timer that has run out; one that does
not run. -/
theorem witness_CoolingEndsByClampOrTimer :
    let s := (cooling .cool 900000).modHead 0 fun hd => { hd with clampCount := 3, kept := some (.valid 700) }
    s.phase ≠ .held ∧ s.TableOk ∧ (s.head 0).state = .cooling ∧ (s.head 0).bound = some key1 ∧
    (s.joint key1).map Joint.state = some .cool ∧ (s.head 0).clampClosed = true ∧
    (s.head 0).clampHolds true s.config.running.clampFilter ∧ s.config.running.clampFilter ≤ (s.head 0).clampCount + 1 ∧
    ((cooling .cool 0).modHead 0 fun hd => { hd with clampCount := 2 }).headHeats 0 = false ∧
    (((cooling .cool 0).modHead 0 fun hd => { hd with clampCount := 2 }).head 0).clampHolds false 4 ∧
    (s.head 0).coolingUntil = some 900000 ∧ ((cooling .rejected 0).joint key1).map Joint.state = some .rejected ∧
    (idle.phase ≠ .held ∧ (idle.head 0).state ≠ .cooling) := by
  decide

/-- A head whose next sample flips its clamp, as the last clause needs it. -/
abbrev Flips (s : State) (st : HeadState) (closed : Bool) : Prop :=
  s.phase ≠ .held ∧ s.TableOk ∧ s.BindingsOk ∧ s.OutputOk ∧ (s.head 0).state = st ∧ st ≠ .off ∧
  (s.head 0).clampClosed = closed ∧ s.config.running.clampFilter ≤ (s.head 0).clampCount + 1

/-- The fourth sample in a row that disagrees: open at a HEATING head that holds the output, at COOLING, IDLE, LOADED and
FAULT heads; closed at a LOADED head that is ready, and at one whose cell stands. -/
theorem witness_CoolingEndsByClampOrTimer_flips :
    let at3 := fun (closed : Bool) (s : State) => s.modHead 0 fun hd => { hd with clampClosed := closed, clampCount := 3 }
    let hot := at3 true (powered profile3 0 .off 0)
    let ready := at3 false (placed .run)
    (Flips hot .heating true ∧ hot.grantedTo 0 = true) ∧ Flips (at3 true (cooling .cool 2000000)) .cooling true ∧
    Flips (at3 true (planned .hold)) .idle true ∧ Flips (at3 true (placed .hold)) .loaded true ∧
    Flips (at3 true (idle.setHead 0 { Head.atReset with state := .fault, faultCause := some .tank })) .fault true ∧
    (Flips ready .loaded false ∧ (ready.boundProfile 0).any (fun p => p.valid) = true ∧ ready.cell.state.running = true ∧
      (ready.head 0).lastFlow = some 14 ∧ ready.config.running.flowMinimum ≤ 14) ∧
    Flips (at3 false (placed .hold)) .loaded false := by
  and_intros <;> decide +kernel

theorem witness_AbortRejectsAndCools :
    let s := powered profile3 0 .armed 0
    s.Takes .cell ∧ s.TableOk ∧ s.BindingsOk ∧ s.OutputOk ∧ headOf 0 = some 0 ∧ (s.head 0).state = .heating ∧
    s.grantedTo 0 = true ∧ headOf 8 = none ∧ headOf 7 = some 7 ∧ (s.head 7).state ≠ .heating := by decide +kernel

/-- A slot that has just started, granted to head 0; an idle one; one that was cut; no slot, and one past its guard. -/
theorem witness_GuardEndComputesTheDemand :
    let s := run (.slotStart 0) (heating profile3 .ramp [578, 579, 581, 582])
    let i := run (.slotStart 0) (running idle)
    let c := run (.abort 0 .cell 7 0) s
    (s.phase ≠ .held ∧ s.TableOk ∧
      s.sched.current = some { position := 0, start := 1000000, grant := some { head := 0, source := .scheduled }, cut := false,
                               guardEnded := false } ∧
      (s.head 0).state = .heating ∧ (s.head 0).bound = some key1 ∧ ((s.joint key1).any fun j => j.state.heating) = true ∧
      s.cell.state.running = true ∧ meanOf (s.head 0).window = some 580 ∧ ((s.joint key1).bind Joint.lastGrant) = some 840) ∧
    (i.sched.current.map fun x => (x.grant, x.guardEnded)) = some (none, false) ∧
    (c.sched.current.map fun x => (x.cut, x.guardEnded)) = some (true, false) ∧
    (idle.phase ≠ .held ∧ idle.sched.current = none) ∧
    ((powered profile3 0 .off 0).sched.current.map fun x => x.guardEnded) = some true := by decide +kernel

/-- A state whose slot, granted to head 0 with its account open, is about to end. -/
abbrev EndsSlot (energy : Nat) (tank : TankMeasure) (misses : Nat) (s : State) : Prop :=
  s.phase ≠ .held ∧ s.TableOk ∧
  (s.sched.current.map fun c => (c.grant, c.cut)) = some (some { head := 0, source := .scheduled }, false) ∧
  (s.power.account.map fun a => (a.head, a.joint, a.demand)) = some (0, key1, 3924) ∧ (s.head 0).bound = some key1 ∧
  ((s.joint key1).map fun j => (j.state, j.energy)) = some (.ramp, energy) ∧ s.gen.tank = tank ∧ (s.head 0).tankMiss = misses ∧
  (s.head 0).state = .heating

/-- An energy that ends exactly at the limit of 150 J, and one that ends 1 mJ over it; no measurement, one under way, one
at the edge of the window, and one past it as the first miss and as the second. -/
theorem witness_SlotEndChargesTheEnergy :
    let s := powered profile3 75444 .off 0
    EndsSlot 75444 .off 0 s ∧ EndsSlot 75445 (.timing 1000700) 0 (powered profile3 75445 (.timing 1000700) 0) ∧
    EndsSlot 75444 (.ended 18000) 1 (powered profile3 75444 (.ended 18000) 1) ∧
    EndsSlot 75444 (.ended 17999) 0 (powered profile3 75444 (.ended 17999) 0) ∧
    EndsSlot 75445 (.ended 26001) 1 (powered profile3 75445 (.ended 26001) 1) ∧
    min 61470000 (75444 + 3924 * (s.config.running.slotLength - 1)) ≤ profile3.maxEnergy * 1000 ∧
    profile3.maxEnergy * 1000 < min 61470000 (75445 + 3924 * (s.config.running.slotLength - 1)) := by
  and_intros <;> decide +kernel

/-- A slot end whose two works both end the heating, in one command and in two. -/
theorem witness_SlotEndOrdersChargeTheSame :
    let s := powered profile3 150000 (.ended 17999) 1
    let left := run (.slotEnd 0 .energyAlone) s
    (s.TableOk ∧ s.BindingsOk ∧ s.OutputOk) ∧ s.SchedOk ∧
    exec (.slotEnd 0 .energyFirst) s = .next (run (.slotEnd 0 .energyFirst) s) ∧
    exec (.slotEnd 0 .tankFirst) s = .next (run (.slotEnd 0 .tankFirst) s) ∧
    exec (.slotEnd 0 .energyAlone) s = .next left ∧ 0 ≤ left.now ∧
    exec (.slotEnd 0 .energyFirst) left = .next (run (.slotEnd 0 .energyFirst) left) ∧
    ((run (.slotEnd 0 .energyFirst) s).joint key1).bind Joint.cause = some .energy ∧
    ((run (.slotEnd 0 .tankFirst) s).joint key1).bind Joint.cause = some .coupling :=
  ⟨by decide +kernel, by decide +kernel, rfl, rfl, rfl, by decide, rfl, by decide +kernel, by decide +kernel⟩

/-- A slot end whose tank judgement is left at `f`, with the head and record then changed. -/
def leftAt (f misses : Nat) (head : Head → Head) (joint : Joint → Joint) : State :=
  ((run (.slotEnd 0 .energyAlone) (powered profile3 0 (.ended f) misses)).modHead 0 head).modJoint key1 joint

/-- Both edges of the window of profile 3, and the frequencies next to them, at a first and at a second miss. -/
theorem witness_TheTankIsTimedAndJudged :
    (idle.phase ≠ .held ∧ idle.gen.tank = .off) ∧ (powered profile3 0 .armed 0).gen.tank = .armed ∧ (powered profile3 0 (.timing 1000700) 0).gen.tank = .timing 1000700 ∧
    1000700 < max (powered profile3 0 (.timing 1000700) 0).now 1001500 ∧
    EndsSlot 0 (.ended 18000) 0 (powered profile3 0 (.ended 18000) 0) ∧
    EndsSlot 0 (.ended 26001) 1 (powered profile3 0 (.ended 26001) 1) ∧
    0 + 3924 * (idle.config.running.slotLength - 1) ≤ profile3.maxEnergy * 1000 ∧
    profile3.tankMin * 100 ≤ 18000 ∧ 26000 ≤ profile3.tankMax * 100 ∧ 17999 < profile3.tankMin * 100 ∧
    profile3.tankMax * 100 < 26001 := by
  and_intros <;> decide +kernel

/-- A state whose judgement of `f` for key 1 at head 0 is left, with the head and the joint as they now stand. -/
abbrev Judges (f misses : Nat) (hs : HeadState) (js : JointState) (s : State) : Prop :=
  s.phase ≠ .held ∧ s.TableOk ∧ s.sched.current = none ∧
  s.sched.judging = some { head := 0, joint := some key1, measured := some f } ∧ (s.head 0).bound = some key1 ∧
  (s.head 0).state = hs ∧ (s.head 0).tankMiss = misses ∧ (s.joint key1).map Joint.state = some js

/-- Judgements that were left, inside the window and as the first miss and the second, at a head that heats, one that cools
and one in RELEASE; one whose joint has been unbound since; and one with no measurement. -/
theorem witness_TheTankIsTimedAndJudged_left :
    let lost := leftAt 17999 1 (fun hd => { hd with state := .idle, bound := none }) fun j => { j with head := none }
    Judges 26000 0 .heating .ramp (leftAt 26000 0 id id) ∧ Judges 26001 0 .heating .ramp (leftAt 26001 0 id id) ∧
    Judges 17999 1 .heating .ramp (leftAt 17999 1 id id) ∧
    Judges 17999 1 .cooling .cool
      (leftAt 17999 1 (fun hd => { hd with state := .cooling, coolingUntil := some 9000000 }) fun j => { j with state := .cool }) ∧
    Judges 17999 1 .release .done
      (leftAt 17999 1 (fun hd => { hd with state := .release }) fun j => { j with state := .done }) ∧
    (lost.TableOk ∧ lost.sched.current = none ∧ lost.sched.judging.isSome = true ∧ (lost.head 0).bound = none) ∧
    (run (.slotEnd 0 .energyAlone) (powered profile3 0 .armed 1)).sched.judging =
      some { head := 0, joint := some key1, measured := none } := by
  and_intros <;> decide +kernel

/-- A scheduled head; a priority entry alone; group 1 alone; group 2 alone; nothing; a tank judgement still to be made; none
due; a T below the aim of its joint, one at it, and the aim in RAMP. -/
theorem witness_SlotStartGrantsInOrder :
    let s := heating profile3 .soak [600]
    let none' := { s with sched := { s.sched with setA := [{ head := 1, qualifier := .any }] } }
    let listed := { s with sched := { none'.sched with priority := [{ head := 0, qualifier := .hold }] } }
    let grouped := { s with sched := { none'.sched with group1 := { members := [2, 0], pointer := some 0 } } }
    let grouped2 := { s with sched := { none'.sched with group2 := { members := [0], pointer := some 0 } } }
    (s.phase ≠ .held ∧ s.sched.startDue = some 999000 ∧ (s.scheduledGrant).isSome = true) ∧
    (listed.scheduledGrant = none ∧ listed.wants .hold 0 = true) ∧
    (grouped.priorityGrant = none ∧ grouped.wants .any 0 = true ∧ grouped.wants .any 2 = false) ∧
    (grouped2.sched.group1.members = [] ∧ grouped2.wants .any 0 = true) ∧
    (none'.decideGrant = none ∧ none'.sched.group1.Ok ∧ none'.sched.group2.Ok) ∧
    ((leftAt 18000 0 id id).sched.judging.isSome = true ∧ s.sched.judging = none ∧ idle.sched.startDue = none) ∧
    ((s.head 0).state = .heating ∧ (s.head 0).bound = some key1 ∧
      (s.joint key1).map (fun j => (j.state, (s.profileOf j).fields.target)) = some (.soak, 740) ∧
      meanOf (s.head 0).window = some 600 ∧ 600 < 740) ∧
    (meanOf ((heating profile3 .soak [740]).head 0).window = some 740 ∧ ¬ 740 < 740 ∧ (s.head 1).state ≠ .heating) ∧
    ((heating profile3 .ramp [612]).joint key1).map (fun j => (j.state, j.setpoint.getD 0 / 1000)) = some (.ramp, 612) := by
  and_intros <;> decide +kernel

/-- The only slot of a frame, with a switch pending; an idle slot; a granted one; a judgement left while the slots run, and
one left in a cell that was halted since; neither. -/
theorem witness_SlotEndAdvancesTheFrame :
    let s := run (.slotStart 0) (running idle)
    let left := run (.slotEnd 0 .energyAlone) (powered profile3 0 (.ended 18000) 0)
    let halted := run (.haltAll 0 .cell 7) left
    (s.phase ≠ .held ∧ (s.sched.current.map fun c => (c.grant, c.cut)) = some (none, false) ∧
      (s.sched.entries s.sched.active).length ≤ s.sched.position + 1) ∧
    (({ s with sched := { s.sched with switchTo := some .b } } : State).sched.switchTo).isSome = true ∧
    EndsSlot 0 (.ended 18000) 0 (powered profile3 0 (.ended 18000) 0) ∧
    (left.sched.current = none ∧ left.sched.judging.isSome = true ∧ left.cell.state.running = true ∧
      left.sched.startDue = none) ∧
    (halted.phase ≠ .held ∧ halted.sched.current = none ∧ halted.sched.judging.isSome = true ∧
      halted.cell.state.running = false) ∧
    (idle.phase ≠ .held ∧ idle.sched.current = none ∧ idle.sched.judging = none) := by decide +kernel

/-- Sixteen entries and seventeen, and the longest payloads; eight members and nine; the last head and the one above it; an
entry of each qualifier. -/
theorem witness_SchedulerListsAreReplacedWhole :
    idle.Takes .cell ∧ (List.replicate 16 ((7, 2) : Byte × Byte)).length ≤ 16 ∧
    (∀ e ∈ List.replicate 16 ((7, 2) : Byte × Byte), e.1.toNat ≤ 7 ∧ e.2.toNat ≤ 2) ∧
    16 < (List.replicate 17 ((7, 2) : Byte × Byte)).length ∧ 7 < (8 : Byte).toNat ∧ 2 < (3 : Byte).toNat ∧
    (∀ m ∈ ([0, 1, 2, 3, 4, 5, 6, 7] : List Byte), m.toNat ≤ 7) ∧ ([0, 1, 2, 3, 4, 5, 6, 7] : List Byte).Nodup ∧
    8 < (List.replicate 9 (0 : Byte)).length ∧ ([0, 7] : List Byte).Nodup ∧ ¬ ([3, 3] : List Byte).Nodup ∧
    RequestCode.writePriority.lengthSuits (pairBytes (List.replicate 125 (0, 0))).length = true ∧
    RequestCode.writeSlots.lengthSuits ((0 : Byte) :: pairBytes (List.replicate 124 (0, 0))).length = true ∧
    (run (.writePriority 0 .cell 1 [(7, 0), (0, 1), (3, 2)]) idle).sched.priority =
      [{ head := 7, qualifier := .any }, { head := 0, qualifier := .ramp }, { head := 3, qualifier := .hold }] :=
  ⟨by decide, by decide, forall_of_all (by decide), by decide, by decide, by decide, forall_of_all (by decide), by decide,
    by decide, by decide, by decide, by decide +kernel, by decide +kernel, by decide +kernel⟩

theorem witness_SwitchSlotsWaitsForTheFrameEnd :
    idle.Takes .cell ∧ (running idle).Takes .cell ∧ (running idle).cell.state.running = true ∧ ¬ 1 < (1 : Byte).toNat ∧
    1 < (2 : Byte).toNat ∧ idle.sched.entries .b = [] ∧ (running idle).sched.entries .a ≠ [] ∧
    ((run (.writeSlots 0 .cell 7 1 [(0, 0)]) idle).sched.entries .b) ≠ [] := by decide +kernel

/-- Heads 7 and 8 by number; heads in OFF, IDLE and FAULT. -/
theorem witness_HeadRequestsChangeOneHead :
    idle.Takes .cell ∧ headOf 7 = some 7 ∧ headOf 8 = none ∧ (idle.head 7).state = .off ∧
    idle.config.running.headCount = 8 ∧ ((planned .hold).head 0).state = .idle ∧ ((planned .hold).head 0).stepsWaiting = 0 ∧
    ((idle.setHead 0 { Head.atReset with state := .fault, faultCause := some .tank }).head 0).lastFlow = none := by decide

theorem witness_HeadLinesChangeOneHead : idle.phase ≠ .held ∧ (idle.head 0).state = .off ∧
    ((planned .hold).head 0).state ≠ .off ∧
    (((planned .hold).modHead 0 fun hd => { hd with stepsWaiting := 1 }).head 0).stepsWaiting ≠ 0 ∧
    (idle.TableOk ∧ (idle.head 0).clampHolds false 4) ∧
    ((placed .run).TableOk ∧ ((placed .run).head 0).state = .loaded ∧
      ((placed .run).head 0).clampHolds false (placed .run).config.running.clampFilter ∧
      (placed .run).boundJoint 0 ≠ none) := by decide +kernel

/-- A state whose head 0 stands as given and takes its second low window in a row. -/
abbrev RunsDry (hs : HeadState) (js : Option JointState) (s : State) : Prop :=
  s.phase ≠ .held ∧ s.TableOk ∧ s.BindingsOk ∧ s.OutputOk ∧ (s.head 0).state = hs ∧ hs ≠ .off ∧ hs ≠ .fault ∧
  (s.head 0).flowPulses < s.config.running.flowMinimum ∧ 1 ≤ (s.head 0).lowFlow ∧ (s.boundJoint 0).map Joint.state = js

/-- Nine pulses, one low window before them, at a heating head that holds the output, at a LOADED one, at a COOLING one whose joint
is REJECTED or in COOL, at one in RELEASE and at an IDLE one; ten pulses at a LOADED head that is ready, and at one whose clamp is
open; a first low window; a head in OFF. -/
theorem witness_FlowWindowsFaultOrStart :
    let low := fun s : State => s.modHead 0 fun hd => { hd with flowPulses := 9, lowFlow := 1 }
    let good := (placed .run).modHead 0 fun hd => { hd with flowPulses := 10 }
    let open' := good.modHead 0 fun hd => { hd with clampClosed := false }
    (RunsDry .heating (some .ramp) (low (powered profile3 0 .armed 0)) ∧ (low (powered profile3 0 .armed 0)).grantedTo 0 = true) ∧
    RunsDry .loaded (some .placed) (low (placed .run)) ∧ RunsDry .cooling (some .rejected) (low (cooling .rejected 9000000)) ∧
    RunsDry .cooling (some .cool) (low (cooling .cool 9000000)) ∧
    RunsDry .release (some .done)
      ((low (cooling .done 9000000)).modHead 0 fun hd => { hd with state := .release, coolingUntil := none }) ∧
    (RunsDry .idle none (low (planned .hold)) ∧ ((low (planned .hold)).head 0).bound = none) ∧
    (good.TableOk ∧ good.BindingsOk ∧ ¬ (good.head 0).flowPulses < good.config.running.flowMinimum ∧
      (good.head 0).state = .loaded ∧ (good.head 0).clampClosed = true ∧ good.cell.state.running = true ∧
      (good.boundProfile 0).any (fun p => p.valid) = true) ∧
    (open'.TableOk ∧ open'.BindingsOk ∧ ¬ (open'.head 0).flowPulses < open'.config.running.flowMinimum ∧
      (open'.head 0).state = .loaded ∧ (open'.head 0).clampClosed = false) ∧
    (((planned .hold).head 0).flowPulses < (planned .hold).config.running.flowMinimum ∧ ((planned .hold).head 0).lowFlow = 0 ∧
      ((planned .hold).head 1).state = .off) := by
  and_intros <;> decide +kernel

/-- The fourth sample at 519 V and the fourth at 535 V of level M, above the trip level. -/
theorem witness_DcLinkSamplesAreJudgedInEitherOrder :
    idle.phase ≠ .held ∧ idle.cell.warningCount ≤ 3 ∧ 519999 / 1000 < idle.config.running.supplyLevel.thresholds.warningSet ∧
    idle.config.running.supplyLevel.thresholds.warningClear ≤ 535000 / 1000 ∧
    ¬ (470000 / 1000 < idle.config.running.supplyLevel.thresholds.trip ∧ 3 ≤ 3) := by decide

/-- A heating part in its slot at the fourth sample of 469 V, and at an assertion of the fault line. -/
def beforeTrip : State :=
  let s := powered profile3 0 .armed 0
  { s with cell := { s.cell with tripCount := 3 } }

/-- The same with set B filled and a switch to it pending. -/
def beforeSwitch (s : State) : State :=
  { s with sched := { s.sched with setB := [{ head := 1, qualifier := .any }], switchTo := some .b } }

theorem witness_TripsEndAllHeating :
    (beforeTrip.phase ≠ .held ∧ beforeTrip.TableOk ∧ beforeTrip.BindingsOk ∧ beforeTrip.HeatingOnlyRunning) ∧
    beforeTrip.CellOk ∧ beforeTrip.SchedOk ∧ beforeTrip.OutputOk ∧
    beforeTrip.cell.tripBelow = false ∧ beforeTrip.cell.tripCount = 3 ∧
    469999 / 1000 < beforeTrip.config.running.supplyLevel.thresholds.trip ∧ beforeTrip.cell.faultLine = false ∧
    (let both := { beforeTrip with cell := { beforeTrip.cell with warningCount := 3 } }
     both.CellOk ∧ both.cell.warningLow = false ∧ both.cell.warningCount = 3 ∧
       469999 / 1000 < both.config.running.supplyLevel.thresholds.warningSet) ∧
    (beforeSwitch beforeTrip).SchedOk ∧ (beforeSwitch beforeTrip).rejectionEvents = [.jointRejected, .slotsSwitched] := by
  and_intros <;> decide +kernel

/-- A cell tripped by the inverter, its line still low, and the same with its line high; a supply trip at the fourth sample
of 500 V. -/
theorem witness_RecoveryNeedsAllThreeConditions :
    let s := run (.faultLineSample 0 true) idle
    let r := run (.faultLineSample 0 false) s
    let low := runAll (List.replicate 4 (.dcLinkSample 0 469999 true) ++ List.replicate 3 (.dcLinkSample 0 500000 true)) idle
    (s.phase ≠ .held ∧ s.cell.faultLine = true ∧ s.cell.state = .tripped ∧ s.cell.causeGenerator = true) ∧
    (r.Takes .cell ∧ r.cell.state = .tripped ∧ r.cell.faultLine = false ∧ r.cell.tripBelow = false) ∧
    (low.phase ≠ .held ∧ low.CellOk ∧ low.cell.tripBelow = true ∧ low.cell.tripCount = 3 ∧
      low.config.running.supplyLevel.thresholds.release ≤ 500000 / 1000 ∧ low.cell.faultLine = false) := by decide +kernel

/-- A cell in HOLD with a slot set and a LOADED head that is ready; with no set; one that runs; one that is tripped. -/
theorem witness_StartRunsTheCell :
    let s : State := { placed .hold with sched := { (placed .hold).sched with setA := [{ head := 0, qualifier := .any }] } }
    (s.Takes .cell ∧ s.TableOk ∧ s.BindingsOk ∧ s.cell.state = .hold ∧ s.sched.entries s.sched.active ≠ [] ∧
      (s.head 0).state = .loaded ∧ (s.boundProfile 0).any (fun p => p.valid) = true ∧ (s.head 0).clampClosed = true ∧
      (∀ n ∈ (s.head 0).lastFlow, s.config.running.flowMinimum ≤ n)) ∧
    idle.sched.entries idle.sched.active = [] ∧ (placed .run).cell.state.running = true ∧
    (run (.faultLineSample 0 true) idle).cell.state = .tripped := by decide +kernel

/-- A running cell with a heating head, and one without; a cell in HOLD with a joint placed; a tripped one. -/
theorem witness_StopAndHaltAllEndTheRun :
    (beforeTrip.Takes .cell ∧ beforeTrip.TableOk ∧ beforeTrip.BindingsOk ∧ beforeTrip.cell.state.running = true ∧
      (beforeTrip.head 0).state = .heating) ∧
    beforeTrip.CellOk ∧ beforeTrip.SchedOk ∧ beforeTrip.OutputOk ∧
    ((running idle).Takes .cell ∧ (running idle).TableOk ∧ (running idle).BindingsOk ∧
      (running idle).cell.state.running = true) ∧
    (running idle).CellOk ∧ (running idle).SchedOk ∧ (running idle).OutputOk ∧
    (∀ h : Fin 8, ((running idle).head h).state ≠ .heating) ∧
    ((placed .hold).Takes .cell ∧ (placed .hold).TableOk ∧ (placed .hold).BindingsOk ∧ (placed .hold).CellOk ∧
      (placed .hold).SchedOk ∧ (placed .hold).OutputOk ∧ (placed .hold).cell.state.running = false) ∧
    (let s := run (.faultLineSample 0 true) idle
     s.Takes .cell ∧ s.TableOk ∧ s.BindingsOk ∧ s.CellOk ∧ s.SchedOk ∧ s.OutputOk ∧ s.cell.state = .tripped) := by
  and_intros <;> decide +kernel

/-- The last profile, head and set of each report's range, and the number above it. -/
theorem witness_ReportsChangeNothing : idle.Takes .cell ∧ profileNumberOf 31 = some 31 ∧ profileNumberOf 32 = none ∧
    headOf 7 = some 7 ∧ headOf 8 = none ∧ ¬ 1 < (1 : Byte).toNat ∧ 1 < (2 : Byte).toNat := by decide

theorem witness_IdentifyAnswersThePartCode :
    idle.phase = .operating ∧ idle.Takes .cell ∧ idle.Takes .inspection ∧
    (idle.setInProgress .cell (some { request := .writeConfig, tag := 1 })).cellLink.inProgress.isSome = true ∧
    ((idle.queueAnswer .cell []).queueAnswer .cell []).cellLink.hasPlace = false := by decide

/-- Two raises of one kind; a heating part at an assertion of the fault line. -/
theorem witness_ARaiseSetsTheFlagAndCounts :
    idle.EventsOk ∧ ([EventKind.linkError, .cellTripped, .linkError].count .linkError) = 2 ∧
    (beforeTrip.phase ≠ .held ∧ beforeTrip.TableOk ∧ beforeTrip.BindingsOk ∧ beforeTrip.HeatingOnlyRunning ∧
      beforeTrip.EventsOk ∧ beforeTrip.cell.faultLine = false ∧
      (beforeTrip.table.records.countP fun x => x.2.state.heating) = 1) ∧
    (idle.events.get EventKind.linkError.code).pending = false ∧
    ((idle.raise .linkError).events.get EventKind.linkError.code).pending = true := by decide +kernel

theorem witness_ReadEventsListsByLevelThenCode : (idle.raise .linkError).Takes .cell := by decide

/-- Kinds 8 and 9; levels 3 and 4; a kind named twice. -/
theorem witness_AcknowledgeAndSetLevelsAreWhole :
    (∀ b ∈ ([0, 8] : List Byte), b.toNat ≤ 8) ∧ idle.Takes .cell ∧ ([0, 8] : List Byte).length ≤ 250 ∧ 8 < (9 : Byte).toNat ∧
    ([(0, 0), (8, 3)] : List (Byte × Byte)).length ≤ 125 ∧ firstBadLevel [(0, 0), (8, 3)] = none ∧
    firstBadLevel [(0, 0), (8, 4)] = some 1 ∧ firstBadLevel [(8, 0), (8, 3)] = some 1 :=
  ⟨forall_of_all (by decide), by decide +kernel⟩

/-- A configuration record at the upper edges of its ranges, but for the slot length. -/
def record (slotLength : Byte) : ConfigRecord :=
  { headCount := 8, rating := 30000, slotLength := slotLength, derate := 75, supplyLevel := 2, clampFilter := 16, flowMinimum := 1,
    sampleLoss := 15, linkSpeed := 1, levels := #v[0, 1, 2, 3, 0, 1, 2, 3, 0] }

/-- Every field at the upper edge of its range and at the lower, and edges passed by one; the end of a write under way. -/
theorem witness_WriteConfigChangesTheStoredRecordAlone :
    let least : ConfigRecord :=
      { headCount := 1, rating := 5000, slotLength := 5, derate := 25, supplyLevel := 0, clampFilter := 4, flowMinimum := 1,
        sampleLoss := 3, linkSpeed := 0, levels := #v[0, 0, 0, 0, 0, 0, 0, 0, 0] }
    idle.Takes .cell ∧ idle.cell.state = .hold ∧ (∀ ok ∈ configTests (record 50), ok = true) ∧
    (∀ ok ∈ configTests least, ok = true) ∧ (configTests { least with headCount := 9 })[0]? = some false ∧
    (configTests { least with rating := 5001 })[1]? = some false ∧ (configTests { least with sampleLoss := 2 })[7]? = some false ∧
    (configTests { least with levels := least.levels.set 8 4 })[9]? = some false ∧
    (configTests (record 51))[2]? = some false ∧ (∀ m < 2, (configTests (record 51))[m]? = some true) ∧
    (let s := run (.writeConfig 0 .cell 7 (record 5)) idle
     s.phase ≠ .held ∧ s.config.write = some { record := record 5, since := 1000000 } ∧
     s.cellLink.inProgress = some { request := .writeConfig, tag := 7 }) ∧
    (idle.phase ≠ .held ∧ idle.config.write = none) := by decide +kernel

/-- A heating part in its slot, about to take the slot end: every invariant holds, and the step answers. -/
def invariantWitness : State := { powered profile3 0 (.ended 18000) 0 with pending := [.slotEnd 0 .energyFirst] }

theorem invariants_hold_at_the_witness :
    invariantWitness.TableOk ∧ invariantWitness.RecordsOk ∧ invariantWitness.HeadRangesOk ∧ invariantWitness.BindingsOk ∧
    invariantWitness.HeatingOnlyRunning ∧ invariantWitness.CellOk ∧ invariantWitness.SchedOk ∧ invariantWitness.OutputOk := by
  and_intros <;> decide +kernel

theorem more_invariants_hold_at_the_witness :
    invariantWitness.PowerOk ∧ invariantWitness.ProfilesOk ∧ invariantWitness.FeedOk ∧ invariantWitness.LinksOk ∧
    invariantWitness.EventsOk := by decide +kernel

theorem witness_step : ∃ s', step invariantWitness = .next s' := ⟨_, rfl⟩

theorem witness_EveryStepKeepsTheTable : invariantWitness.TableOk ∧ ∃ s', step invariantWitness = .next s' :=
  ⟨invariants_hold_at_the_witness.1, witness_step⟩

theorem witness_EveryStepKeepsBindingsAndHeating :
    invariantWitness.TableOk ∧ invariantWitness.BindingsOk ∧ invariantWitness.HeatingOnlyRunning ∧
    ∃ s', step invariantWitness = .next s' :=
  have h := invariants_hold_at_the_witness
  ⟨h.1, h.2.2.2.1, h.2.2.2.2.1, witness_step⟩

theorem witness_EveryStepKeepsTheRecords :
    invariantWitness.TableOk ∧ invariantWitness.BindingsOk ∧ invariantWitness.HeadRangesOk ∧ invariantWitness.RecordsOk ∧
    ∃ s', step invariantWitness = .next s' :=
  have h := invariants_hold_at_the_witness
  ⟨h.1, h.2.2.2.1, h.2.2.1, h.2.1, witness_step⟩

theorem witness_ARecordNeverLosesItsHistory :
    invariantWitness.TableOk ∧ invariantWitness.RecordsOk ∧
    ∃ s' j j', step invariantWitness = .next s' ∧ invariantWitness.joint key1 = some j ∧ s'.joint key1 = some j' :=
  have h := invariants_hold_at_the_witness
  ⟨h.1, h.2.1, _, _, _, rfl, rfl, rfl⟩

theorem witness_EveryStepKeepsTheCellAndScheduler :
    invariantWitness.CellOk ∧ invariantWitness.SchedOk ∧ ∃ s', step invariantWitness = .next s' :=
  have h := invariants_hold_at_the_witness
  ⟨h.2.2.2.2.2.1, h.2.2.2.2.2.2.1, witness_step⟩

theorem witness_EveryStepKeepsTheOutputSafe :
    invariantWitness.TableOk ∧ invariantWitness.BindingsOk ∧ invariantWitness.HeatingOnlyRunning ∧ invariantWitness.CellOk ∧
    invariantWitness.SchedOk ∧ invariantWitness.PowerOk ∧ invariantWitness.OutputOk ∧
    ∃ s', step invariantWitness = .next s' :=
  have h := invariants_hold_at_the_witness
  have m := more_invariants_hold_at_the_witness
  ⟨h.1, h.2.2.2.1, h.2.2.2.2.1, h.2.2.2.2.2.1, h.2.2.2.2.2.2.1, m.1, h.2.2.2.2.2.2.2, witness_step⟩

theorem witness_EveryStepKeepsPowerProfilesAndFeed :
    invariantWitness.PowerOk ∧ invariantWitness.ProfilesOk ∧ invariantWitness.TableOk ∧ invariantWitness.BindingsOk ∧
    invariantWitness.HeatingOnlyRunning ∧ invariantWitness.FeedOk ∧ ∃ s', step invariantWitness = .next s' :=
  have h := invariants_hold_at_the_witness
  have m := more_invariants_hold_at_the_witness
  ⟨m.1, m.2.1, h.1, h.2.2.2.1, h.2.2.2.2.1, m.2.2.1, witness_step⟩

/-- The second clause in the quiet period itself, about to take a request. -/
theorem witness_EveryStepKeepsRangesAndTheQuietPeriod :
    (invariantWitness.HeadRangesOk ∧ invariantWitness.EventsOk ∧ invariantWitness.LinksOk ∧
      ∃ s', step invariantWitness = .next s') ∧
    (let q : State := { State.reset with pending := [.start 0 .cell 7] }
     q.phase ≠ .operating ∧ q.QuietOk ∧ ∃ s', step q = .next s') :=
  have h := invariants_hold_at_the_witness
  have m := more_invariants_hold_at_the_witness
  ⟨⟨h.2.2.1, m.2.2.2.2, m.2.2.2.1, witness_step⟩, by decide, by decide, ⟨_, rfl⟩⟩

theorem witness_InspectionLinkReachesVerdictsAlone :
    comesOverInspection (.setVerdict 0 .inspection 7 key1 1) = true ∧ rejected.TableOk ∧
    ∃ s', exec (.setVerdict 0 .inspection 7 key1 1) rejected = .next s' := ⟨rfl, by decide, ⟨_, rfl⟩⟩

/-- A close at head 0 that ends its output. -/
theorem witness_HeadEventsStayAtTheirHead :
    headOfEvent (.periodClose 0 0 true) = some 0 ∧ (powered profile3 0 .armed 0).TableOk ∧
    (powered profile3 0 .armed 0).OutputOk ∧ ∃ s', exec (.periodClose 0 0 true) (powered profile3 0 .armed 0) = .next s' :=
  ⟨rfl, by decide +kernel, by decide +kernel, ⟨_, rfl⟩⟩

end Sys2Proof.Tests
end

/-! SUPPORT. A request its link hands on: the state its block is handed, and what the block leaves when it answers. -/

namespace Sys2Proof.Machine

/-! ### Parts kept -/

/-- What two steps keep in turn, both together keep. -/
theorem State.KeepsAllBut.trans {c₁ c₂ : List Part} {s s' s'' : State} (h₁ : s.KeepsAllBut c₁ s')
    (h₂ : s'.KeepsAllBut c₂ s'') : s.KeepsAllBut (c₁ ++ c₂) s'' := by
  obtain ⟨pending₁, shares₁⟩ := h₁
  obtain ⟨pending₂, shares₂⟩ := h₂
  refine ⟨pending₂.trans pending₁, fun p hp => ?_⟩
  rw [List.mem_append, not_or] at hp
  have e₁ := shares₁ p hp.1
  have e₂ := shares₂ p hp.2
  cases p
  case links =>
    obtain ⟨cell₁, insp₁, tx₁⟩ := e₁
    obtain ⟨cell₂, insp₂, tx₂⟩ := e₂
    exact ⟨cell₂.trans cell₁, insp₂.trans insp₁, tx₂.trans tx₁⟩
  all_goals exact Eq.trans e₂ e₁

/-- A longer list of parts that may differ says less. -/
theorem State.KeepsAllBut.mono {c c' : List Part} {s s' : State} (h : s.KeepsAllBut c s') (hc : c ⊆ c') :
    s.KeepsAllBut c' s' :=
  ⟨h.1, fun p hp => h.2 p fun hm => hp (hc hm)⟩

theorem State.keepsAllBut_nil (s : State) : s.KeepsAllBut [] s :=
  ⟨rfl, fun p _ => by cases p <;> simp [State.shares]⟩

/-- A change of the table alone. -/
theorem State.withTable_keepsAllBut (x : JointTable) (s : State) : s.KeepsAllBut [.table] { s with table := x } :=
  ⟨rfl, fun p hp => by cases p <;> simp [State.shares] at hp ⊢⟩

theorem State.modJoint_keepsAllBut (k : Key) (f : Joint → Joint) (s : State) : s.KeepsAllBut [.table] (s.modJoint k f) :=
  s.withTable_keepsAllBut _

theorem State.modHead_keepsAllBut (h : Fin 8) (f : Head → Head) (s : State) : s.KeepsAllBut [.heads] (s.modHead h f) :=
  ⟨rfl, fun p hp => by cases p <;> simp [State.shares] at hp ⊢⟩

/-- A change of the power computation alone. -/
theorem State.withPower_keepsAllBut (x : Power) (s : State) : s.KeepsAllBut [.power] { s with power := x } :=
  ⟨rfl, fun p hp => by cases p <;> simp [State.shares] at hp ⊢⟩

/-! ### The state a block is handed (R162 step 6) -/

/-- The state in which a link hands a request on: the command has come to its time and the receiver waits. -/
def State.handed (t : Nat) (l : Link) (s : State) : State := (s.arrive t 0).setReceiver l .waiting

section
variable (t : Nat) (l : Link) (s : State)

@[simp] theorem State.handed_now : (s.handed t l).now = max s.now t := by simp [State.handed]
@[simp] theorem State.handed_table : (s.handed t l).table = s.table := by simp [State.handed]
@[simp] theorem State.handed_profiles : (s.handed t l).profiles = s.profiles := by simp [State.handed]
@[simp] theorem State.handed_heads : (s.handed t l).heads = s.heads := by simp [State.handed]
@[simp] theorem State.handed_power : (s.handed t l).power = s.power := by simp [State.handed]
@[simp] theorem State.handed_cell : (s.handed t l).cell = s.cell := by simp [State.handed]
@[simp] theorem State.handed_config : (s.handed t l).config = s.config := by simp [State.handed]
@[simp] theorem State.handed_driven : (s.handed t l).driven = [] := by simp [State.handed]
@[simp] theorem State.handed_txSince : (s.handed t l).txSince = s.txSince := by simp [State.handed]

@[simp] theorem State.handed_liveCount : (s.handed t l).liveCount = s.liveCount := by simp [State.liveCount]
@[simp] theorem State.handed_joint (k : Key) : (s.handed t l).joint k = s.joint k := State.joint_congr (by simp) k
@[simp] theorem State.handed_head (h : Fin 8) : (s.handed t l).head h = s.head h := State.head_congr (by simp) h
@[simp] theorem State.handed_profileOf (j : Joint) : (s.handed t l).profileOf j = s.profileOf j := by
  simp [State.profileOf]

@[simp] theorem State.handed_link_same : (s.handed t l).link l = { s.link l with receiver := .waiting } := by
  simp [State.handed]

@[simp] theorem State.handed_link_other : (s.handed t l).link (otherLink l) = s.link (otherLink l) := by
  cases l <;> rfl

@[simp] theorem State.handed_answers : (s.handed t l).inspLink.answers = s.inspLink.answers := by cases l <;> rfl

theorem State.handed_keepsAllBut : s.KeepsAllBut [.now, .driven, .links] (s.handed t l) :=
  ⟨by simp [State.handed], fun p hp => by cases p <;> simp [State.shares, State.handed] at hp ⊢⟩

end

/-- The command is the request its link hands to its block: it goes on to what the block leaves, the answer queued. -/
def HandedOn (i : Instr) (t : Nat) (l : Link) (tag : Byte) (s : State) : Prop :=
  ∀ s₁ r, requestOp i (s.handed t l) = (s₁, some r) →
    exec i s = .next (s₁.queueAnswer l (answerFrame r.status tag r.payload))

/-- A link that takes a request hands it on, if it is permitted there and of a suitable length. -/
theorem handedOn_of_takes {i : Instr} {t : Nat} {l : Link} {tag : Byte} {c : RequestCode} {p : List Byte} {s : State}
    (ha : arrivalOf i = some (t, l, tag)) (he : encodeRequest i = some (c, p)) (hs : s.Takes l)
    (hc : c.permittedOn l = true) (hp : c.lengthSuits p.length = true) : HandedOn i t l tag s := by
  intro s₁ r hop
  obtain ⟨hphase, hplace, hprogress⟩ := hs
  rw [exec_request s ha he, requestCommand_eq, hphase]
  simp only [State.judgeFrame_handed l tag c p.length (requestOp i) (s.arrive t 0) (by simpa using hplace)
    (by simpa using hprogress) hc hp]
  rw [State.handed] at hop
  rw [hop]

theorem State.link_queueAnswer_other (l : Link) (fr : List Byte) (s : State) :
    (s.queueAnswer l fr).link (otherLink l) = s.link (otherLink l) := by cases l <;> rfl

/-- A link is read from the link parts alone. -/
theorem State.link_eq_of_shares {s s' : State} (h : s.shares .links s') (l : Link) : s'.link l = s.link l := by
  cases l
  · exact h.1
  · exact h.2.1

theorem State.queueAnswer_keepsAllBut (l : Link) (fr : List Byte) (s : State) :
    s.KeepsAllBut [.links] (s.queueAnswer l fr) :=
  ⟨by simp, fun p hp => by cases p <;> simp [State.shares] at hp ⊢⟩

/-- A block that leaves the time, the lines and the links alone has replied once its answer is queued. -/
theorem State.replied_of_keepsAllBut {t : Nat} {l : Link} {changed : List Part} {s s₁ : State} (tag : Byte) (st : Status)
    (payload : List Byte) (hk : (s.handed t l).KeepsAllBut changed s₁)
    (hc : Part.now ∉ changed ∧ Part.driven ∉ changed ∧ Part.links ∉ changed) :
    State.Replied t l tag st payload changed s (s₁.queueAnswer l (answerFrame st tag payload)) := by
  obtain ⟨hnow, hdriven, hlinks⟩ := hc
  have now_eq : s₁.now = max s.now t := (hk.2 .now hnow).trans (by simp)
  have driven_eq : s₁.driven = [] := (hk.2 .driven hdriven).trans (by simp)
  have links_eq := hk.2 .links hlinks
  have ⟨_, insp, tx⟩ := links_eq
  have tx_eq : s₁.txSince = s.txSince := tx.trans (by simp)
  have insp_eq : s₁.inspLink.answers = s.inspLink.answers := by rw [insp]; simp
  refine ⟨⟨?_, ?_, ?_⟩, ⟨by simpa using now_eq, by simpa using driven_eq⟩, ?_⟩
  · rw [State.link_queueAnswer_same, State.link_eq_of_shares links_eq, State.handed_link_same]
  · rw [State.link_queueAnswer_other, State.link_eq_of_shares links_eq, State.handed_link_other]
  · simp [State.TxFollows, State.txSinceAfter, tx_eq, insp_eq]
  · refine (((s.handed_keepsAllBut t l).trans hk).trans (s₁.queueAnswer_keepsAllBut l _)).mono fun p hp => ?_
    simp only [List.mem_append] at hp ⊢
    tauto

/-- A request that its block refuses is answered and changes nothing (R7, R163). -/
theorem HandedOn.refused {i : Instr} {t : Nat} {l : Link} {tag : Byte} {s : State} {st : Status}
    (h : HandedOn i t l tag s) (hop : requestOp i (s.handed t l) = (s.handed t l, some (refusal st))) :
    ∃ s', exec i s = .next s' ∧ State.Replied t l tag st [] [] s s' :=
  ⟨_, h _ _ hop, State.replied_of_keepsAllBut tag st [] (State.keepsAllBut_nil _) (by decide)⟩

/-- A request that its block accepts is answered OK, and the table, the heads and the power are as the block left them. -/
theorem HandedOn.accepted {i : Instr} {t : Nat} {l : Link} {tag : Byte} {s s₁ : State} {payload : List Byte}
    {changed : List Part} (h : HandedOn i t l tag s) (hop : requestOp i (s.handed t l) = (s₁, some (okReply payload)))
    (hk : (s.handed t l).KeepsAllBut changed s₁)
    (hc : Part.now ∉ changed ∧ Part.driven ∉ changed ∧ Part.links ∉ changed) :
    ∃ s', exec i s = .next s' ∧ State.Replied t l tag .ok payload changed s s' ∧
      s'.table = s₁.table ∧ s'.heads = s₁.heads ∧ s'.power = s₁.power :=
  ⟨_, h _ _ hop, State.replied_of_keepsAllBut tag .ok payload hk hc, by simp, by simp, by simp⟩

end Sys2Proof.Machine

/-! SUPPORT. The Joint Table's requests on one record: Set Verdict and Rearm. -/

namespace Sys2Proof.Machine

/-! ### One record of the table -/

/-- The key decides the record: no two records hold one key (R1). -/
theorem State.eq_of_key_eq {s : State} {k : Key} {j : Joint} {x : Nat × Joint} (hT : s.TableOk) (hj : s.joint k = some j)
    (hx : x ∈ s.table.records) (hk : x.2.key = k) : x.2 = j := by
  obtain ⟨-, -, hkeys, -, -⟩ := hT
  obtain ⟨n, hn⟩ := State.joint_mem hj
  have : Std.Symm fun x y : Nat × Joint => x.2.key ≠ y.2.key := ⟨fun _ _ h => h.symm⟩
  by_contra hne
  have := hkeys.forall hx hn fun e => hne (by rw [e])
  exact this (hk.trans (State.joint_key hj).symm)

/-- The one record that holds a key changes as the function says of it. -/
theorem State.recordBecomes_modJoint {s s₀ s' : State} {k : Key} {j : Joint} {f : Joint → Joint} (hT : s.TableOk)
    (hj : s.joint k = some j) (hs₀ : s₀.table = s.table) (hs' : s'.table = (s₀.modJoint k f).table) :
    s.RecordBecomes k (f j) s' := by
  unfold State.RecordBecomes
  rw [hs', State.modJoint_table, hs₀, JointTable.mk.injEq]
  refine ⟨List.map_congr_left fun x hx => ?_, rfl⟩
  split
  · next hk => rw [State.eq_of_key_eq hT hj hx hk]
  · rfl

/-- Two changes of one record in turn, the first of which keeps its key. -/
theorem State.modJoint_modJoint (k : Key) {f : Joint → Joint} (g : Joint → Joint) (s : State)
    (hf : ∀ j, (f j).key = j.key) : (s.modJoint k f).modJoint k g = s.modJoint k (g ∘ f) := by
  simp only [State.modJoint, List.map_map]
  congr 2
  refine List.map_congr_left fun x _ => ?_
  by_cases hk : x.2.key = k <;> simp [hk, hf]

/-! ### Set Verdict (R20) -/

/-- A byte names a verdict exactly from 1 to 3 (R170). -/
theorem verdictOf_eq (b : Byte) :
    verdictOf b = if b = 0 ∨ 3 < b.toNat then none
      else some (if b = 1 then .accept else if b = 2 then .rework else .scrap) := by
  revert b
  decide

/-- The verdict is taken for a finished record that has none (R20). -/
theorem setVerdictRequest_of_taken {k : Key} {b : Byte} {v : Verdict} {j : Joint} {s : State} (hv : verdictOf b = some v)
    (hj : s.joint k = some j) (hok : (j.state = .done ∨ j.state = .rejected) ∧ j.verdict = none) :
    setVerdictRequest k b s = (s.modJoint k fun j => { j with verdict := some v }, some (okReply [])) := by
  obtain ⟨hstate, hverdict⟩ := hok
  have : ¬(j.state ≠ .done ∧ j.state ≠ .rejected) := by tauto
  simp [setVerdictRequest, hv, hj, hverdict, this]

/-- A record that is not finished, or has a verdict, is refused (R20). -/
theorem setVerdictRequest_of_refused {k : Key} {b : Byte} {v : Verdict} {j : Joint} {s : State}
    (hv : verdictOf b = some v) (hj : s.joint k = some j)
    (hno : ¬((j.state = .done ∨ j.state = .rejected) ∧ j.verdict = none)) :
    setVerdictRequest k b s = (s, some (refusal .state)) := by
  have : (j.state ≠ .done ∧ j.state ≠ .rejected) ∨ j.verdict.isSome = true := by
    rw [Option.isSome_iff_ne_none]; tauto
  simp only [setVerdictRequest, hv, hj, if_pos this]

/-- Settles O19, by what the verdict byte names, whether the key is held, and whether the record can take a verdict. -/
theorem setVerdictIsTakenOnce : Obligations.SetVerdictIsTakenOnce := by
  unfold Obligations.SetVerdictIsTakenOnce
  intro t l tag k b s hs hT
  have handed : HandedOn (.setVerdict t l tag k b) t l tag s :=
    handedOn_of_takes rfl rfl hs (by cases l <;> rfl) rfl
  have hv := verdictOf_eq b
  by_cases hb : b = 0 ∨ 3 < b.toNat
  · rw [if_pos hb] at hv
    simp only [if_pos hb]
    exact handed.refused (by simp [requestOp, setVerdictRequest, hv])
  rw [if_neg hb] at hv
  simp only [if_neg hb]
  cases hj : s.joint k with
  | none => exact handed.refused (by simp [requestOp, setVerdictRequest, hv, hj])
  | some j =>
    by_cases hok : (j.state = .done ∨ j.state = .rejected) ∧ j.verdict = none
    · obtain ⟨s', hexec, hreplied, htable, -⟩ := handed.accepted
        (setVerdictRequest_of_taken hv (by simpa using hj) hok) (State.modJoint_keepsAllBut k _ _) (by decide)
      refine ⟨s', hexec, ?_⟩
      simp only [if_pos hok]
      exact ⟨hreplied, State.recordBecomes_modJoint hT hj (by simp) htable⟩
    · simp only [if_neg hok]
      exact handed.refused (setVerdictRequest_of_refused hv (by simpa using hj) hok)

/-! ### Rearm (R22, R23) -/

/-- The conditions of a Rearm, spelt out: the seven causes, and the solidus test on a peak that is present (R22). -/
theorem Joint.mayRearm_iff (j : Joint) (p : Profile) :
    j.mayRearm p = true ↔ j.state = .rejected ∧ j.head = none ∧ j.verdict = none ∧
      (∃ c, j.cause = some c ∧ c ∈ [.clampLost, .sampleLoss, .coupling, .coolant, .supply, .generator, .aborted]) ∧
      j.reheats < 2 ∧ (j.peakTemp = none ∨ ∃ x, j.peakTemp = some x ∧ p.valid = true ∧ x < p.fields.solidus) := by
  have cause : (j.cause.any fun c => c.rearmable) = true ↔
      ∃ c, j.cause = some c ∧ c ∈ [.clampLost, .sampleLoss, .coupling, .coolant, .supply, .generator, .aborted] := by
    cases j.cause with
    | none => simp
    | some c => cases c <;> simp [RejectCause.rearmable]
  have peak : p.peakPasses j.peakTemp = true ↔
      j.peakTemp = none ∨ ∃ x, j.peakTemp = some x ∧ p.valid = true ∧ x < p.fields.solidus := by
    cases j.peakTemp <;> simp [Profile.peakPasses]
  simp only [Joint.mayRearm, decide_eq_true_eq, cause, peak, Config.reheatMax]

/-- Settles O20, by whether the key is held and its record passes R22. -/
theorem rearmReturnsARecordToPlanned : Obligations.RearmReturnsARecordToPlanned := by
  unfold Obligations.RearmReturnsARecordToPlanned
  intro t tag k s hs hT
  have handed : HandedOn (.rearm t .cell tag k) t .cell tag s := handedOn_of_takes rfl rfl hs rfl rfl
  cases hj : s.joint k with
  | none =>
    obtain ⟨s', hexec, hreplied⟩ := handed.refused (st := .notFound) (by simp [requestOp, rearmRequest, hj])
    exact ⟨s', hexec, fun _ => hreplied, by simp⟩
  | some j =>
    have passes := j.mayRearm_iff (s.profileOf j)
    by_cases hok : j.mayRearm (s.profileOf j) = true
    · obtain ⟨s', hexec, hreplied, htable, -⟩ := handed.accepted (payload := [byteOf (j.reheats + 1)])
        (s₁ := (s.handed t .cell).modJoint k Joint.rearmed) (by simp [requestOp, rearmRequest, hj, hok])
        (State.modJoint_keepsAllBut k _ _) (by decide)
      refine ⟨s', hexec, by simp, fun j' hj' => ?_⟩
      cases hj'
      exact ⟨fun _ => ⟨hreplied, State.recordBecomes_modJoint hT hj (by simp) htable⟩,
        fun hno => absurd (passes.mp hok) hno⟩
    · obtain ⟨s', hexec, hreplied⟩ := handed.refused (st := .state) (by simp [requestOp, rearmRequest, hj, hok])
      refine ⟨s', hexec, by simp, fun j' hj' => ?_⟩
      cases hj'
      exact ⟨fun hyes => absurd (passes.mpr hyes) hok, fun _ => hreplied⟩

end Sys2Proof.Machine

/-! SUPPORT. Bind and Unbind: a record and a head, joined and taken apart in one request. -/

namespace Sys2Proof.Machine

/-! ### The binding (R15) -/

/-- A record that a Bind has placed at a head (R15). -/
def Joint.placedAt (h : Fin 8) (j : Joint) : Joint := { j with state := .placed, head := some h }

@[simp] theorem Joint.placedAt_key (h : Fin 8) (j : Joint) : (j.placedAt h).key = j.key := rfl
@[simp] theorem Joint.started_key (temp : Option Nat) (target : Nat) (j : Joint) :
    (j.started temp target).key = j.key := rfl

section
variable (k : Key) (h : Fin 8) (s : State)

theorem State.bindTo_eq :
    s.bindTo k h = (s.modJoint k (Joint.placedAt h)).modHead h fun hd => { hd with state := .loaded, bound := some k } := rfl

@[simp] theorem State.bindTo_table : (s.bindTo k h).table = (s.modJoint k (Joint.placedAt h)).table := rfl
@[simp] theorem State.bindTo_profiles : (s.bindTo k h).profiles = s.profiles := rfl
@[simp] theorem State.bindTo_power : (s.bindTo k h).power = s.power := rfl
@[simp] theorem State.bindTo_cell : (s.bindTo k h).cell = s.cell := rfl
@[simp] theorem State.bindTo_config : (s.bindTo k h).config = s.config := rfl
@[simp] theorem State.bindTo_now : (s.bindTo k h).now = s.now := rfl
@[simp] theorem State.bindTo_heads :
    (s.bindTo k h).heads = s.heads.set h { s.head h with state := .loaded, bound := some k } := rfl
@[simp] theorem State.bindTo_head :
    (s.bindTo k h).head h = { s.head h with state := .loaded, bound := some k } := by
  rw [State.bindTo_eq, State.head_modHead_same, State.head_modJoint]

theorem State.bindTo_keepsAllBut : s.KeepsAllBut [.table, .heads] (s.bindTo k h) :=
  (s.modJoint_keepsAllBut k _).trans (State.modHead_keepsAllBut h _ _)

variable {k s} {j : Joint} (hj : s.joint k = some j)
include hj

theorem State.joint_bindTo : (s.bindTo k h).joint k = some (j.placedAt h) := by
  rw [State.joint_congr (s' := s.bindTo k h) (s := s.modJoint k (Joint.placedAt h)) rfl,
    State.joint_modJoint _ _ _ _ (Joint.placedAt_key h)]
  simp [hj]

/-- After a binding the head finds its record's profile through the binding. -/
theorem State.boundProfile_bindTo : (s.bindTo k h).boundProfile h = some (s.profileOf j) := by
  simp [State.boundProfile, State.boundJoint, State.joint_bindTo h hj, State.profileOf, Joint.placedAt]

/-- A head just loaded under a valid profile starts if the clamp, the flow and the cell allow (R47). -/
theorem State.startReady_bindTo (hv : (s.profileOf j).valid = true) :
    (s.bindTo k h).startReady h = true ↔ (s.head h).clampClosed = true ∧
      (∀ n ∈ (s.head h).lastFlow, s.config.running.flowMinimum ≤ n) ∧ s.cell.state.running = true := by
  have flow : (s.head h).flowLow s.config.running.flowMinimum = false ↔
      ∀ n ∈ (s.head h).lastFlow, s.config.running.flowMinimum ≤ n := by
    cases hf : (s.head h).lastFlow <;> simp [Head.flowLow, hf]
  have flow_bindTo : Head.flowLow { s.head h with state := .loaded, bound := some k } = (s.head h).flowLow := rfl
  simp [State.startReady, State.boundProfile_bindTo h hj, hv, flow_bindTo, flow]

end

/-! ### The start of a heating at a head just bound (R49) -/

section
variable (k : Key) (h : Fin 8) (target : Nat) (s : State)

theorem State.startHeating_bindTo :
    (s.bindTo k h).startHeating h target =
      let s' := ((s.bindTo k h).modJoint k (Joint.started (meanOf (s.head h).window) target)).modHead h fun hd =>
        { hd with state := .heating, missed := 0, tankMiss := 0 }
      { s' with power := { s.power with startRefs := s.power.startRefs.set h (some s.nowMs) } } := by
  simp only [State.startHeating_eq, State.modBound_eq, State.bindTo_head]
  rfl

theorem State.startHeating_bindTo_table :
    ((s.bindTo k h).startHeating h target).table =
      (s.modJoint k (Joint.started (meanOf (s.head h).window) target ∘ Joint.placedAt h)).table := by
  rw [State.startHeating_bindTo, ← State.modJoint_modJoint k _ s (Joint.placedAt_key h)]
  rfl

theorem State.startHeating_bindTo_heads :
    ((s.bindTo k h).startHeating h target).heads =
      s.heads.set h { s.head h with state := .heating, bound := some k, missed := 0, tankMiss := 0 } := by
  simp [State.startHeating_bindTo]

theorem State.startHeating_bindTo_power :
    ((s.bindTo k h).startHeating h target).power =
      { s.power with startRefs := s.power.startRefs.set h (some s.nowMs) } := by
  rw [State.startHeating_bindTo]

theorem State.startHeating_bindTo_keepsAllBut :
    s.KeepsAllBut [.table, .heads, .power] ((s.bindTo k h).startHeating h target) := by
  rw [State.startHeating_bindTo]
  refine ((((s.bindTo_keepsAllBut k h).trans (State.modJoint_keepsAllBut k _ _)).trans
    (State.modHead_keepsAllBut h _ _)).trans (State.withPower_keepsAllBut _ _)).mono ?_
  decide

end

/-! ### Bind (R14, R15, R47) -/

section
variable {k : Key} {b : Byte} {h : Fin 8} {s : State} {j : Joint} (hb : headOf b = some h) (hj : s.joint k = some j)
include hb hj

theorem bindRequest_of_refused
    (hno : ¬(j.state = .planned ∧ (s.profileOf j).valid = true ∧ (s.head h).state = .idle)) :
    bindRequest k b s = (s, some (refusal .state)) := by
  have : j.state ≠ .planned ∨ (s.profileOf j).valid = false ∨ (s.head h).state ≠ .idle := by
    rw [← Bool.not_eq_true]; tauto
  simp only [bindRequest, hb, hj, if_pos this]

/-- A Bind that passes binds, and tests the start of the cycle (R15, R47). -/
theorem bindRequest_of_passes
    (hok : j.state = .planned ∧ (s.profileOf j).valid = true ∧ (s.head h).state = .idle) :
    bindRequest k b s = ((s.bindTo k h).testStart h,
      some (okReply [byteOf (((((s.bindTo k h).testStart h).joint k).map fun j => j.state.code).getD 0)])) := by
  obtain ⟨hstate, hvalid, hidle⟩ := hok
  simp [bindRequest, hb, hj, hstate, hvalid, hidle]

theorem bindRequest_of_started
    (hok : j.state = .planned ∧ (s.profileOf j).valid = true ∧ (s.head h).state = .idle)
    (hr : (s.bindTo k h).startReady h = true) :
    bindRequest k b s =
      ((s.bindTo k h).startHeating h (s.profileOf j).fields.target, some (okReply [2])) := by
  have start : (s.bindTo k h).testStart h = (s.bindTo k h).startHeating h (s.profileOf j).fields.target := by
    simp [State.testStart, hr, State.boundProfile_bindTo h hj]
  have record : ((s.bindTo k h).startHeating h (s.profileOf j).fields.target).joint k =
      some ((j.placedAt h).started (meanOf (s.head h).window) (s.profileOf j).fields.target) := by
    rw [State.joint_congr (congrArg JointTable.records (State.startHeating_bindTo_table k h _ s)),
      State.joint_modJoint _ _ _ _ fun j => by simp]
    simp [hj]
  rw [bindRequest_of_passes hb hj hok, start, record]
  rfl

theorem bindRequest_of_placed
    (hok : j.state = .planned ∧ (s.profileOf j).valid = true ∧ (s.head h).state = .idle)
    (hr : (s.bindTo k h).startReady h = false) :
    bindRequest k b s = (s.bindTo k h, some (okReply [1])) := by
  rw [bindRequest_of_passes hb hj hok, State.testStart_of_not_ready h _ hr, State.joint_bindTo h hj]
  rfl

end

/-! ### Unbind (R18) -/

/-- A PLACED record names a head, if the bindings are in order (R5). -/
theorem State.head_of_placed {s : State} {k : Key} {j : Joint} (hB : s.BindingsOk) (hj : s.joint k = some j)
    (hp : j.state = .placed) : ∃ h, j.head = some h := by
  obtain ⟨-, records⟩ := hB
  obtain ⟨n, hn⟩ := State.joint_mem hj
  have := records _ hn
  cases hh : j.head with
  | none => simp [State.jointBindingOk, hh, hp] at this
  | some h => exact ⟨h, rfl⟩

theorem unbindRequest_of_placed {k : Key} {h : Fin 8} {s : State} {j : Joint} (hj : s.joint k = some j)
    (hp : j.state = .placed) (hh : j.head = some h) :
    unbindRequest k s = ((s.modJoint k fun j => { j with state := .planned, head := none }).modHead h fun hd =>
      { hd with state := .idle, bound := none }, some (okReply [])) := by
  simp [unbindRequest, hj, hp, hh]

/-! ### What the two requests do -/

section
variable {t : Nat} {tag : Byte} {k : Key} {b : Byte} {h : Fin 8} {s : State} {j : Joint} (hs : s.Takes .cell)
  (hT : s.TableOk) (hb : headOf b = some h) (hj : s.joint k = some j)
include hs hT hb hj

/-- A Bind at a head that is ready to start leaves the record in RAMP and the head HEATING (R15, R47, R49). -/
theorem exec_bind_of_started (hok : j.state = .planned ∧ (s.profileOf j).valid = true ∧ (s.head h).state = .idle)
    (hr : (s.head h).clampClosed = true ∧ (∀ n ∈ (s.head h).lastFlow, s.config.running.flowMinimum ≤ n) ∧
      s.cell.state.running = true) :
    ∃ s' : State, exec (.bind t .cell tag k b) s = .next s' ∧
      State.Replied t .cell tag .ok [2] [.table, .heads, .power] s s' ∧
      s.RecordBecomes k ((j.placedAt h).started (meanOf (s.head h).window) (s.profileOf j).fields.target) s' ∧
      s.HeadBecomes h { s.head h with state := .heating, bound := some k, missed := 0, tankMiss := 0 } s' ∧
      s'.power = { s.power with startRefs := s.power.startRefs.set h (some (max s.now t / 1000)) } := by
  have handed : HandedOn (.bind t .cell tag k b) t .cell tag s := handedOn_of_takes rfl rfl hs rfl rfl
  have hj' : (s.handed t .cell).joint k = some j := by simpa using hj
  have ⟨_, hvalid, _⟩ := hok
  have ready : ((s.handed t .cell).bindTo k h).startReady h = true :=
    (State.startReady_bindTo h hj' (by simpa using hvalid)).mpr (by simpa using hr)
  obtain ⟨s', hexec, hreplied, htable, hheads, hpower⟩ := handed.accepted
    (bindRequest_of_started hb hj' (by simpa using hok) ready)
    (State.startHeating_bindTo_keepsAllBut k h _ _) (by decide)
  rw [State.startHeating_bindTo_table] at htable
  rw [State.startHeating_bindTo_heads] at hheads
  rw [State.startHeating_bindTo_power] at hpower
  refine ⟨s', hexec, hreplied, ?_, ?_, ?_⟩
  · simpa using State.recordBecomes_modJoint hT hj (by simp) htable
  · simpa [State.HeadBecomes] using hheads
  · simpa [State.nowMs] using hpower

/-- A Bind at a head that is not ready to start leaves the record PLACED and the head LOADED (R15). -/
theorem exec_bind_of_placed (hok : j.state = .planned ∧ (s.profileOf j).valid = true ∧ (s.head h).state = .idle)
    (hr : ¬((s.head h).clampClosed = true ∧ (∀ n ∈ (s.head h).lastFlow, s.config.running.flowMinimum ≤ n) ∧
      s.cell.state.running = true)) :
    ∃ s' : State, exec (.bind t .cell tag k b) s = .next s' ∧
      State.Replied t .cell tag .ok [1] [.table, .heads] s s' ∧ s.RecordBecomes k (j.placedAt h) s' ∧
      s.HeadBecomes h { s.head h with state := .loaded, bound := some k } s' := by
  have handed : HandedOn (.bind t .cell tag k b) t .cell tag s := handedOn_of_takes rfl rfl hs rfl rfl
  have hj' : (s.handed t .cell).joint k = some j := by simpa using hj
  have ⟨_, hvalid, _⟩ := hok
  have not_ready : ((s.handed t .cell).bindTo k h).startReady h = false := by
    rw [← Bool.not_eq_true, State.startReady_bindTo h hj' (by simpa using hvalid)]
    simpa using hr
  obtain ⟨s', hexec, hreplied, htable, hheads, -⟩ := handed.accepted
    (bindRequest_of_placed hb hj' (by simpa using hok) not_ready) (State.bindTo_keepsAllBut k h _) (by decide)
  refine ⟨s', hexec, hreplied, State.recordBecomes_modJoint hT hj (by simp) htable, ?_⟩
  simpa [State.HeadBecomes] using hheads

end

/-- An Unbind of a PLACED record takes it and its head apart (R18). -/
theorem exec_unbind_of_placed {t : Nat} {tag : Byte} {k : Key} {h : Fin 8} {s : State} {j : Joint} (hs : s.Takes .cell)
    (hT : s.TableOk) (hj : s.joint k = some j) (hp : j.state = .placed) (hh : j.head = some h) :
    ∃ s' : State, exec (.unbind t .cell tag k) s = .next s' ∧ State.Replied t .cell tag .ok [] [.table, .heads] s s' ∧
      s.RecordBecomes k { j with state := .planned, head := none } s' ∧
      s.HeadBecomes h { s.head h with state := .idle, bound := none } s' := by
  have handed : HandedOn (.unbind t .cell tag k) t .cell tag s := handedOn_of_takes rfl rfl hs rfl rfl
  obtain ⟨s', hexec, hreplied, htable, hheads, -⟩ := handed.accepted
    (unbindRequest_of_placed (by simpa using hj) hp hh)
    ((State.modJoint_keepsAllBut k _ _).trans (State.modHead_keepsAllBut h _ _)) (by decide)
  rw [State.modHead_table] at htable
  refine ⟨s', hexec, hreplied, State.recordBecomes_modJoint hT hj (by simp) htable, ?_⟩
  simpa [State.HeadBecomes] using hheads

/-- Settles O18: each outcome of the two requests is one of the cases above. -/
theorem bindAndUnbindActOnBoth : Obligations.BindAndUnbindActOnBoth := by
  unfold Obligations.BindAndUnbindActOnBoth
  refine ⟨fun t tag k b s hs hT => ?_, fun t tag k s hs hT hB => ?_⟩
  · have handed : HandedOn (.bind t .cell tag k b) t .cell tag s := handedOn_of_takes rfl rfl hs rfl rfl
    cases hb : headOf b with
    | none => exact handed.refused (by simp [requestOp, bindRequest, hb])
    | some h =>
      cases hj : s.joint k with
      | none => exact handed.refused (by simp [requestOp, bindRequest, hb, hj])
      | some j =>
        by_cases hok : j.state = .planned ∧ (s.profileOf j).valid = true ∧ (s.head h).state = .idle
        · simp only [if_pos hok]
          split
          · next hr => exact exec_bind_of_started hs hT hb hj hok hr
          · next hr => exact exec_bind_of_placed hs hT hb hj hok hr
        · simp only [if_neg hok]
          exact handed.refused (bindRequest_of_refused hb (by simpa using hj) (by simpa using hok))
  · have handed : HandedOn (.unbind t .cell tag k) t .cell tag s := handedOn_of_takes rfl rfl hs rfl rfl
    cases hj : s.joint k with
    | none => exact handed.refused (by simp [requestOp, unbindRequest, hj])
    | some j =>
      by_cases hp : j.state = .placed
      · obtain ⟨h, hh⟩ := State.head_of_placed hB hj hp
        obtain ⟨s', hexec, acts⟩ := exec_unbind_of_placed hs hT hj hp hh
        refine ⟨s', hexec, ?_⟩
        simp only [if_pos hp]
        exact ⟨h, hh, acts⟩
      · simp only [if_neg hp]
        exact handed.refused (by simp [requestOp, unbindRequest, hj, hp])

end Sys2Proof.Machine

/-! SUPPORT. Retire and Retire Matching: which records go, how many are left, and the mark. -/

namespace Sys2Proof.Machine

/-! ### The mark and the answer (R2, R26) -/

/-- A retirement touches nothing but the mark, and arms it at a live count of 448 or below (R2). -/
theorem State.markAfterRetire_eq (s : State) :
    s.markAfterRetire = { s with table := { s.table with
      mark := if s.liveCount ≤ 448 then .armed else s.table.mark } } := by
  unfold State.markAfterRetire
  cases hm : s.table.mark <;> by_cases hc : s.liveCount ≤ 448 <;> simp [Config.tableArmAt, hc, ← hm]

/-- The live count and the mark as an answer carries them are read from the table. -/
theorem State.countAndMark_eq {s s' : State} (e : s'.table = s.table) :
    s.countAndMark = bytes2 s'.liveCount ++ [match s'.table.mark with | .armed => 0 | .raised => (1 : Byte)] := by
  simp only [State.countAndMark, State.liveCount, e]
  cases s.table.mark <;> rfl

/-! ### Retire (R25, R26) -/

/-- Exactly one record goes: no other holds its key (R1). -/
theorem State.liveCount_removeJoint {s : State} {k : Key} {j : Joint} (hT : s.TableOk) (hj : s.joint k = some j) :
    (s.removeJoint k).liveCount + 1 = s.liveCount := by
  obtain ⟨-, -, hkeys, -, -⟩ := hT
  obtain ⟨n, hn⟩ := State.joint_mem hj
  have nodup : (s.table.records.map fun x => x.2.key).Nodup := List.pairwise_map.mpr hkeys
  have mem : k ∈ s.table.records.map fun x => x.2.key := List.mem_map.mpr ⟨_, hn, State.joint_key hj⟩
  have one : s.table.records.countP (fun x => decide (x.2.key = k)) = 1 := by
    have := List.count_eq_one_of_mem nodup mem
    rw [List.count, List.countP_map] at this
    simpa [Function.comp_def, beq_eq_decide] using this
  have split := List.length_eq_countP_add_countP (fun x : Nat × Joint => decide (x.2.key = k)) (l := s.table.records)
  simp only [State.liveCount, State.removeJoint_table, ← List.countP_eq_length_filter, ne_eq]
  simp only [decide_eq_true_eq, one] at split
  omega

/-- The Inspection Link may retire a record only with a verdict (R25). -/
theorem Joint.mayRetireOn_iff (j : Joint) (l : Link) :
    j.mayRetireOn l = true ↔ (l = .inspection → j.verdict.isSome = true) := by
  cases l <;> simp [Joint.mayRetireOn]

section
variable {l : Link} {k : Key} {s : State} {j : Joint} (hj : s.joint k = some j)
include hj

theorem retireRequest_of_passes (hok : j.head = none ∧ (l = .inspection → j.verdict.isSome = true)) :
    retireRequest l k s =
      ((s.removeJoint k).markAfterRetire, some (okReply (s.removeJoint k).markAfterRetire.countAndMark)) := by
  obtain ⟨hhead, hverdict⟩ := hok
  simp [retireRequest, hj, hhead, (j.mayRetireOn_iff l).mpr hverdict]

theorem retireRequest_of_refused (hno : ¬(j.head = none ∧ (l = .inspection → j.verdict.isSome = true))) :
    retireRequest l k s = (s, some (refusal .state)) := by
  have : j.head.isSome = true ∨ j.mayRetireOn l = false := by
    rw [← Bool.not_eq_true, Joint.mayRetireOn_iff, Option.isSome_iff_ne_none]; tauto
  simp only [retireRequest, hj, if_pos this]

end

/-- Records taken out of the table, and the mark after it, are a change of the table alone. -/
theorem State.markAfterRetire_keepsAllBut (x : JointTable) (s : State) :
    s.KeepsAllBut [.table] ({ s with table := x }).markAfterRetire := by
  rw [State.markAfterRetire_eq]
  exact s.withTable_keepsAllBut _

/-! ### Retire Matching (R28) -/

/-- Two words differ at no digit of a mask exactly when their masked digits are the same. -/
theorem xor_and_eq_zero_iff {w : Nat} (a b m : BitVec w) : (a ^^^ b) &&& m = 0 ↔ a &&& m = b &&& m := by
  have distrib : (a ^^^ b) &&& m = (a &&& m) ^^^ (b &&& m) := by
    ext i hi
    simp [Bool.and_xor_distrib_right]
  rw [distrib]
  exact BitVec.xor_eq_zero_iff

/-- A key agrees with the code at the digits of the mask exactly when the masked digits are the same (R11). -/
theorem keyMatches_eq (code mask k : Key) :
    keyMatches code mask k = decide (k.serial &&& mask.serial = code.serial &&& mask.serial ∧
      k.position &&& mask.position = code.position &&& mask.position) := by
  simp only [keyMatches, xor_and_eq_zero_iff]

/-- The records that a Retire Matching retires. -/
def goesWith (code mask : Key) (x : Nat × Joint) : Bool := keyMatches code mask x.2.key && x.2.retirable

theorem Joint.retirable_eq (j : Joint) :
    j.retirable = decide (j.head = none ∧ j.state ∈ [.planned, .done, .rejected]) := by
  simp [Joint.retirable]

/-- What a Retire Matching leaves and answers, in counts over the table (R28). -/
theorem retireMatchingRequest_eq (code mask : Key) (s : State) :
    retireMatchingRequest code mask s =
      let s' := ({ s with table := { s.table with
        records := s.table.records.filter fun x => !goesWith code mask x } } : State).markAfterRetire
      (s', some (okReply (bytes2 (s.table.records.countP (goesWith code mask)) ++
        bytes2 (s.table.records.countP (fun x => keyMatches code mask x.2.key) -
          s.table.records.countP (goesWith code mask)) ++ s'.countAndMark))) := by
  have retired : ((s.table.records.filter fun x => keyMatches code mask x.2.key).filter fun x => x.2.retirable).length =
      s.table.records.countP (goesWith code mask) := by
    rw [List.filter_filter, ← List.countP_eq_length_filter]
    exact List.countP_congr fun x _ => by rw [goesWith, Bool.and_comm]
  simp only [retireMatchingRequest, retired, ← List.countP_eq_length_filter]
  rfl

/-- What is left and what goes make up the table. -/
theorem length_filter_not_add_countP (p : Nat × Joint → Bool) (records : List (Nat × Joint)) :
    (records.filter fun x => !p x).length + records.countP p = records.length := by
  have split := List.length_eq_countP_add_countP p (l := records)
  simp only [Bool.not_eq_true, Bool.decide_eq_false, List.countP_eq_length_filter] at split ⊢
  omega

/-! ### What the two requests do -/

/-- A Retire that passes removes exactly the record and answers the live count and the mark it leaves (R26). -/
theorem exec_retire_of_passes {t : Nat} {l : Link} {tag : Byte} {k : Key} {s : State} {j : Joint} (hs : s.Takes l)
    (hT : s.TableOk) (hj : s.joint k = some j) (hok : j.head = none ∧ (l = .inspection → j.verdict.isSome = true)) :
    ∃ s' : State, exec (.retire t l tag k) s = .next s' ∧
      State.Replied t l tag .ok (bytes2 s'.liveCount ++ [(match s'.table.mark with | .armed => 0 | .raised => 1 : Byte)])
        [.table] s s' ∧
      (∀ x, x ∈ s'.table.records ↔ x ∈ s.table.records ∧ x.2.key ≠ k) ∧ s'.liveCount + 1 = s.liveCount ∧
      s'.table.mark = if s'.liveCount ≤ 448 then .armed else s.table.mark := by
  have handed : HandedOn (.retire t l tag k) t l tag s := handedOn_of_takes rfl rfl hs (by cases l <;> rfl) rfl
  obtain ⟨s', hexec, hreplied, htable, -⟩ := handed.accepted (retireRequest_of_passes (by simpa using hj) hok)
    (State.markAfterRetire_keepsAllBut _ _) (by decide)
  rw [State.countAndMark_eq htable] at hreplied
  rw [State.markAfterRetire_eq] at htable
  have records_eq : s'.table.records = (s.removeJoint k).table.records := by simp [htable]
  have count_eq : s'.liveCount = (s.removeJoint k).liveCount := congrArg List.length records_eq
  refine ⟨s', hexec, hreplied, fun x => by simp [records_eq], ?_, ?_⟩
  · rw [count_eq, State.liveCount_removeJoint hT hj]
  · rw [htable, count_eq]
    simp [State.liveCount]

/-- A Retire Matching removes exactly the records that go, and answers them, the matches skipped, the live count and the
mark (R28). -/
theorem exec_retireMatching {t : Nat} {tag : Byte} (code mask : Key) {s : State} (hs : s.Takes .cell) :
    let retired := s.table.records.countP (goesWith code mask)
    ∃ s' : State, exec (.retireMatching t .cell tag code mask) s = .next s' ∧
      (∀ x, x ∈ s'.table.records ↔ x ∈ s.table.records ∧ goesWith code mask x = false) ∧
      s'.liveCount + retired = s.liveCount ∧
      s'.table.mark = (if s'.liveCount ≤ 448 then .armed else s.table.mark) ∧
      State.Replied t .cell tag .ok (bytes2 retired ++
        bytes2 (s.table.records.countP (fun x => keyMatches code mask x.2.key) - retired) ++ bytes2 s'.liveCount ++
        [(match s'.table.mark with | .armed => 0 | .raised => 1 : Byte)]) [.table] s s' := by
  intro retired
  have handed : HandedOn (.retireMatching t .cell tag code mask) t .cell tag s := handedOn_of_takes rfl rfl hs rfl rfl
  obtain ⟨s', hexec, hreplied, htable, -⟩ := handed.accepted (retireMatchingRequest_eq code mask _)
    (State.markAfterRetire_keepsAllBut _ _) (by decide)
  rw [State.countAndMark_eq htable] at hreplied
  rw [State.markAfterRetire_eq] at htable
  have records_eq : s'.table.records = s.table.records.filter fun x => !goesWith code mask x := by simp [htable]
  have count_eq : s'.liveCount + retired = s.liveCount := by
    rw [State.liveCount, records_eq]
    exact length_filter_not_add_countP _ _
  refine ⟨s', hexec, fun x => by simp [records_eq], count_eq, ?_, ?_⟩
  · rw [htable, State.liveCount, State.liveCount, records_eq]
    simp
  · simpa using hreplied

/-- Settles O21, from the cases of a Retire and the counts of a Retire Matching. -/
theorem retiringRemovesUnboundRecords : Obligations.RetiringRemovesUnboundRecords := by
  unfold Obligations.RetiringRemovesUnboundRecords
  refine ⟨fun t l tag k s hs hT => ?_, fun t tag code mask s hs hT => ?_⟩
  · have handed : HandedOn (.retire t l tag k) t l tag s := handedOn_of_takes rfl rfl hs (by cases l <;> rfl) rfl
    cases hj : s.joint k with
    | none => exact handed.refused (by simp [requestOp, retireRequest, hj])
    | some j =>
      by_cases hok : j.head = none ∧ (l = .inspection → j.verdict.isSome = true)
      · simp only [if_pos hok]
        exact exec_retire_of_passes hs hT hj hok
      · simp only [if_neg hok]
        exact handed.refused (retireRequest_of_refused (by simpa using hj) hok)
  · intro hit goes retired
    have hit_eq : hit = fun x => keyMatches code mask x.2.key := funext fun x => (keyMatches_eq code mask x.2.key).symm
    have goes_eq : goes = goesWith code mask := by
      funext x
      rw [goesWith, Joint.retirable_eq, keyMatches_eq]
    simp only [retired, goes_eq, hit_eq]
    exact exec_retireMatching code mask hs

end Sys2Proof.Machine

/-! SUPPORT. What the scheduler's writes have in common: the bytes they carry, and a block that leaves a new schedule. -/

namespace Sys2Proof.Machine

/-! ### Coded bytes (R170) -/

/-- A byte names a slot set exactly up to 1 (R170). -/
theorem setNameOf_eq (b : Byte) :
    setNameOf b = if 1 < b.toNat then none else some (if b = 0 then .a else .b) := by
  revert b
  decide

/-- The code of the set that a byte names is the byte again. -/
theorem byteOf_code_setName (b : Byte) (hb : ¬1 < b.toNat) :
    byteOf (SetName.code (if b = 0 then .a else .b)) = b := by
  revert b
  decide

/-- A byte names a qualifier exactly up to 2 (R170). -/
theorem qualifierOf_isNone_iff (b : Byte) : (qualifierOf b).isNone = true ↔ 2 < b.toNat := by
  revert b
  decide

/-- The byte that names a qualifier is its code (R170). -/
theorem eq_code_of_qualifierOf {b : Byte} {q : Qualifier} (hq : qualifierOf b = some q) : b = byteOf q.code := by
  revert b
  cases q <;> decide

/-- A byte names a head exactly up to 7 (R170). -/
theorem headOf_isNone_iff (b : Byte) : (headOf b).isNone = true ↔ 7 < b.toNat := by
  unfold headOf
  split <;> simp <;> omega

theorem headOf_eq_some_iff (b : Byte) (h : Fin 8) : headOf b = some h ↔ h.val = b.toNat := by
  unfold headOf
  split <;> simp [Fin.ext_iff] <;> omega

/-! ### Entries of a slot set or of the priority list (R98) -/

/-- A pair of bytes that names a head and a qualifier. -/
abbrev EntryGood (e : Byte × Byte) : Prop := e.1.toNat ≤ 7 ∧ e.2.toNat ≤ 2

/-- A pair of bytes is the number of an entry's head and the code of its qualifier. -/
def EntrySpells (e : Byte × Byte) (x : SlotEntry) : Prop :=
  x.head.val = e.1.toNat ∧ e.2 = match x.qualifier with | .any => 0 | .ramp => 1 | .hold => 2

/-- An entry is read off exactly a good pair, which then spells it. -/
theorem entryOf_cases (e : Byte × Byte) :
    (EntryGood e ∧ ∃ x, entryOf e = some x ∧ EntrySpells e x) ∨ (¬EntryGood e ∧ entryOf e = none) := by
  cases hh : headOf e.1 with
  | none =>
    have : 7 < e.1.toNat := (headOf_isNone_iff _).mp (by simp [hh])
    exact .inr ⟨fun good => by have := good.1; omega, by simp [entryOf, hh]⟩
  | some h =>
    have number := (headOf_eq_some_iff _ h).mp hh
    cases hq : qualifierOf e.2 with
    | none =>
      have : 2 < e.2.toNat := (qualifierOf_isNone_iff _).mp (by simp [hq])
      exact .inr ⟨fun good => by have := good.2; omega, by simp [entryOf, hh, hq]⟩
    | some q =>
      have named : ¬2 < e.2.toNat := by simp [← qualifierOf_isNone_iff, hq]
      refine .inl ⟨⟨by omega, by omega⟩, { head := h, qualifier := q }, by simp [entryOf, hh, hq], number, ?_⟩
      rw [eq_code_of_qualifierOf hq]
      cases q <;> rfl

theorem entryOf_isNone_iff (e : Byte × Byte) : (entryOf e).isNone = true ↔ ¬EntryGood e := by
  obtain ⟨good, x, hx, -⟩ | ⟨bad, hx⟩ := entryOf_cases e
  · simp [hx, good]
  · simpa [hx] using bad

theorem entryOf_of_good {e : Byte × Byte} (good : EntryGood e) : ∃ x, entryOf e = some x ∧ EntrySpells e x := by
  obtain ⟨-, spelt⟩ | ⟨bad, -⟩ := entryOf_cases e
  · exact spelt
  · exact absurd good bad

/-- The first bad entry is the one that the search finds. -/
theorem findIdx?_entryOf_eq_some {entries : List (Byte × Byte)} {n : Nat} {e : Byte × Byte} (he : entries[n]? = some e)
    (bad : ¬EntryGood e) (first : ∀ m e', m < n → entries[m]? = some e' → EntryGood e') :
    (entries.findIdx? fun e => (entryOf e).isNone) = some n := by
  obtain ⟨hn, rfl⟩ := List.getElem?_eq_some_iff.mp he
  refine List.findIdx?_eq_some_iff_getElem.mpr ⟨hn, (entryOf_isNone_iff _).mpr bad, fun m hm => ?_⟩
  rw [entryOf_isNone_iff, not_not]
  exact first m _ hm (List.getElem?_eq_getElem (by omega))

theorem findIdx?_entryOf_eq_none_iff (entries : List (Byte × Byte)) :
    (entries.findIdx? fun e => (entryOf e).isNone) = none ↔ ∀ e ∈ entries, EntryGood e := by
  simp only [List.findIdx?_eq_none_iff, ← Bool.not_eq_true, entryOf_isNone_iff, not_not]

/-! ### Lists read element by element -/

/-- Where every element is read, the list read off agrees with it element by element. -/
theorem forall₂_filterMap {α β : Type} {f : α → Option β} {R : α → β → Prop} {xs : List α}
    (h : ∀ x ∈ xs, ∃ y, f x = some y ∧ R x y) : List.Forall₂ R xs (xs.filterMap f) := by
  induction xs with
  | nil => exact .nil
  | cons x xs ih =>
    obtain ⟨y, hy, hR⟩ := h x List.mem_cons_self
    rw [List.filterMap_cons_some hy]
    exact .cons hR (ih fun x hx => h x (List.mem_cons_of_mem _ hx))

/-- No element of a list occurs earlier in it exactly when its elements are distinct. -/
theorem firstRepeat_isSome_iff {α : Type} [DecidableEq α] (xs : List α) :
    (firstRepeat xs).isSome = true ↔ ¬xs.Nodup := by
  have none_iff : firstRepeat xs = none ↔ xs.Nodup := by
    simp only [firstRepeat, List.find?_eq_none, List.mem_range, List.any_eq_true, decide_eq_true_eq,
      List.nodup_iff_getElem?_ne_getElem?]
    constructor
    · intro distinct i j hij hj heq
      refine distinct j hj ⟨xs[i], List.mem_take_iff_getElem.mpr ⟨i, by omega, rfl⟩, ?_⟩
      rw [← heq, List.getElem?_eq_getElem]
    · rintro distinct j hj ⟨y, hy, heq⟩
      obtain ⟨i, hi, rfl⟩ := List.mem_take_iff_getElem.mp hy
      refine distinct i j (by omega) hj ?_
      rw [← heq, List.getElem?_eq_getElem]
  rw [← none_iff, Option.isSome_iff_ne_none]

/-! ### A block that leaves a new schedule -/

@[simp] theorem State.handed_sched (t : Nat) (l : Link) (s : State) : (s.handed t l).sched = s.sched := by
  simp [State.handed]

@[simp] theorem State.handed_events (t : Nat) (l : Link) (s : State) : (s.handed t l).events = s.events := by
  simp [State.handed]

/-- A change of the schedule alone. -/
theorem State.withSched_keepsAllBut (x : Scheduler) (s : State) : s.KeepsAllBut [.sched] { s with sched := x } :=
  ⟨rfl, fun p hp => by cases p <;> simp [State.shares] at hp ⊢⟩

theorem State.raise_keepsAllBut (k : EventKind) (s : State) : s.KeepsAllBut [.events] (s.raise k) :=
  ⟨rfl, fun p hp => by cases p <;> simp [State.shares] at hp ⊢⟩

/-- A request that its block answers is answered so, and the schedule and the events are as the block left them. -/
theorem HandedOn.answered {i : Instr} {t : Nat} {l : Link} {tag : Byte} {s s₁ : State} {r : Reply} {changed : List Part}
    (h : HandedOn i t l tag s) (hop : requestOp i (s.handed t l) = (s₁, some r))
    (hk : (s.handed t l).KeepsAllBut changed s₁)
    (hc : Part.now ∉ changed ∧ Part.driven ∉ changed ∧ Part.links ∉ changed) :
    ∃ s', exec i s = .next s' ∧ State.Replied t l tag r.status r.payload changed s s' ∧
      s'.sched = s₁.sched ∧ s'.events = s₁.events :=
  ⟨_, h _ _ hop, State.replied_of_keepsAllBut tag r.status r.payload hk hc, by simp, by simp⟩

end Sys2Proof.Machine

/-! SUPPORT. The scheduler's lists: Write Slots, Write Priority and Write Group. -/

namespace Sys2Proof.Machine

/-- Two bytes go out for each entry (R170). -/
theorem length_pairBytes (entries : List (Byte × Byte)) : (pairBytes entries).length = 2 * entries.length := by
  induction entries with
  | nil => rfl
  | cons e es ih =>
    have split : pairBytes (e :: es) = e.1 :: e.2 :: pairBytes es := rfl
    rw [split, List.length_cons, List.length_cons, List.length_cons, ih]
    omega

/-! ### Write Slots (R108, R109) -/

/-- A replaced set is a change of the schedule alone. -/
theorem State.writeSet_eq (b : Byte) (entries : List SlotEntry) (s : State) :
    s.writeSet (if b = 0 then .a else .b) entries =
      { s with sched := if b = 0 then { s.sched with setA := entries } else { s.sched with setB := entries } } := by
  by_cases hb : b = 0
  · rw [if_pos hb, if_pos hb]; rfl
  · rw [if_neg hb, if_neg hb]; rfl

/-- A bad set name or number of entries comes before any other check (R108). -/
theorem writeSlotsRequest_of_misfit {b : Byte} {entries : List (Byte × Byte)} (s : State)
    (h : 1 < b.toNat ∨ entries.length < 1 ∨ 16 < entries.length) :
    writeSlotsRequest b entries s = (s, some (refusal .range)) := by
  rw [writeSlotsRequest, setNameOf_eq]
  by_cases hb : 1 < b.toNat
  · simp only [if_pos hb]
  · have count : entries.length < 1 ∨ Config.setMax < entries.length := h.resolve_left hb
    simp only [if_neg hb, if_pos count]

section
variable {b : Byte} {entries : List (Byte × Byte)} (s : State)
  (h : ¬(1 < b.toNat ∨ entries.length < 1 ∨ 16 < entries.length))
include h

theorem writeSlotsRequest_of_badEntry {n : Nat} (hn : (entries.findIdx? fun e => (entryOf e).isNone) = some n) :
    writeSlotsRequest b entries s = (s, some (refusalAt .range n)) := by
  obtain ⟨hb, count⟩ := not_or.mp h
  have count : ¬(entries.length < 1 ∨ Config.setMax < entries.length) := count
  simp only [writeSlotsRequest, setNameOf_eq, if_neg hb, if_neg count, hn]

/-- With every entry good, the set is replaced unless a switch to it is pending or its slots run (R108). -/
theorem writeSlotsRequest_of_good (hn : (entries.findIdx? fun e => (entryOf e).isNone) = none) :
    writeSlotsRequest b entries s =
      let set : SetName := if b = 0 then .a else .b
      if s.sched.switchTo = some set then (s, some (refusal .busy))
      else if s.sched.active = set ∧ s.cell.state.running = true then (s, some (refusal .state))
      else (s.writeSet set (entries.filterMap entryOf), some (okReply [b, byteOf entries.length])) := by
  obtain ⟨hb, count⟩ := not_or.mp h
  have count : ¬(entries.length < 1 ∨ Config.setMax < entries.length) := count
  simp only [writeSlotsRequest, setNameOf_eq, if_neg hb, if_neg count, hn, byteOf_code_setName b hb,
    @eq_comm _ s.sched.active]

end

/-! ### Write Priority (R114) -/

theorem any_entryOf_isNone_iff (entries : List (Byte × Byte)) :
    (entries.any fun e => (entryOf e).isNone) = true ↔ ∃ e ∈ entries, ¬EntryGood e := by
  simp only [List.any_eq_true, entryOf_isNone_iff]

/-- The list is replaced unless it is too long, has a bad entry or names a head twice (R114). -/
theorem writePriorityRequest_eq (entries : List (Byte × Byte)) (s : State) :
    writePriorityRequest entries s =
      if 8 < entries.length ∨ (∃ e ∈ entries, ¬EntryGood e) ∨ ¬(entries.map Prod.fst).Nodup then
        (s, some (refusal .range))
      else ({ s with sched := { s.sched with priority := entries.filterMap entryOf } }, some (okReply [])) := by
  simp only [writePriorityRequest, any_entryOf_isNone_iff, firstRepeat_isSome_iff, Config.listMax]

/-! ### Write Group (R115) -/

theorem any_headOf_isNone_iff (members : List Byte) :
    (members.any fun m => (headOf m).isNone) = true ↔ ∃ m ∈ members, 7 < m.toNat := by
  simp only [List.any_eq_true, headOf_isNone_iff]

/-- The group is replaced unless its number is bad, or its list too long, of a bad member or of one twice (R115). -/
theorem writeGroupRequest_eq (b : Byte) (members : List Byte) (s : State) :
    writeGroupRequest b members s =
      if (b ≠ 1 ∧ b ≠ 2) ∨ 8 < members.length ∨ (∃ m ∈ members, 7 < m.toNat) ∨ ¬members.Nodup then
        (s, some (refusal .range))
      else
        let g := RobinGroup.ofMembers (members.filterMap headOf)
        ({ s with sched := if b = 1 then { s.sched with group1 := g } else { s.sched with group2 := g } },
          some (okReply [])) := by
  simp only [writeGroupRequest, any_headOf_isNone_iff, firstRepeat_isSome_iff, Config.listMax]
  split
  · rfl
  · split <;> rfl

/-- A group made of at most eight distinct heads is in order (R94). -/
theorem RobinGroup.ofMembers_ok {ms : List (Fin 8)} (hlen : ms.length ≤ 8) (hnodup : ms.Nodup) :
    (RobinGroup.ofMembers ms).Ok :=
  ⟨hlen, hnodup, fun _ h => List.mem_of_getLast? h, List.getLast?_eq_none_iff⟩

/-- Distinct bytes name distinct heads. -/
theorem nodup_filterMap_headOf {members : List Byte} (h : members.Nodup) : (members.filterMap headOf).Nodup := by
  refine h.filterMap fun m m' x hm hm' => BitVec.eq_of_toNat_eq ?_
  rw [← (headOf_eq_some_iff m x).mp hm, (headOf_eq_some_iff m' x).mp hm']

/-! ### What the three requests do -/

/-- What a Write Slots with a good name, number of entries and entries does (R108, R109). -/
theorem exec_writeSlots_of_good {t : Nat} {tag b : Byte} {entries : List (Byte × Byte)} {s : State}
    (handed : HandedOn (.writeSlots t .cell tag b entries) t .cell tag s)
    (fits : ¬(1 < b.toNat ∨ entries.length < 1 ∨ 16 < entries.length)) (good : ∀ e ∈ entries, EntryGood e) :
    let set : SetName := if b = 0 then .a else .b
    ∃ s' : State, exec (.writeSlots t .cell tag b entries) s = .next s' ∧
      if s.sched.switchTo = some set then State.Replied t .cell tag .busy [] [] s s'
      else if s.sched.active = set ∧ s.cell.state.running = true then State.Replied t .cell tag .state [] [] s s'
      else State.Replied t .cell tag .ok [b, byteOf entries.length] [.sched] s s' ∧
        ∃ slots : List SlotEntry, List.Forall₂ EntrySpells entries slots ∧
          s'.sched = (if b = 0 then { s.sched with setA := slots } else { s.sched with setB := slots }) := by
  intro set
  have request := writeSlotsRequest_of_good (s.handed t .cell) fits ((findIdx?_entryOf_eq_none_iff entries).mpr good)
  simp only [State.handed_sched, State.handed_cell] at request
  by_cases busy : s.sched.switchTo = some set
  · simp only [if_pos busy]
    exact handed.refused (request.trans (if_pos busy))
  replace request := request.trans (if_neg busy)
  by_cases runs : s.sched.active = set ∧ s.cell.state.running = true
  · simp only [if_neg busy, if_pos runs]
    exact handed.refused (request.trans (if_pos runs))
  replace request := request.trans (if_neg runs)
  simp only [if_neg busy, if_neg runs]
  rw [State.writeSet_eq] at request
  obtain ⟨s', hexec, hreplied, hsched, -⟩ := handed.answered request (State.withSched_keepsAllBut _ _) (by decide)
  refine ⟨s', hexec, hreplied, _, forall₂_filterMap fun e he => entryOf_of_good (good e he), ?_⟩
  simpa using hsched

/-- A Write Priority with a good list replaces the list (R114). -/
theorem exec_writePriority_of_good {t : Nat} {tag : Byte} {entries : List (Byte × Byte)} {s : State}
    (handed : HandedOn (.writePriority t .cell tag entries) t .cell tag s)
    (good : ¬(8 < entries.length ∨ (∃ e ∈ entries, ¬EntryGood e) ∨ ¬(entries.map Prod.fst).Nodup)) :
    ∃ s' : State, exec (.writePriority t .cell tag entries) s = .next s' ∧
      State.Replied t .cell tag .ok [] [.sched] s s' ∧
      ∃ listed : List SlotEntry, List.Forall₂ EntrySpells entries listed ∧
        s'.sched = { s.sched with priority := listed } := by
  obtain ⟨s', hexec, hreplied, hsched, -⟩ := handed.answered
    ((writePriorityRequest_eq entries _).trans (if_neg good)) (State.withSched_keepsAllBut _ _) (by decide)
  refine ⟨s', hexec, hreplied, _, forall₂_filterMap fun e he => entryOf_of_good ?_, by simpa using hsched⟩
  by_contra bad
  exact good (.inr (.inl ⟨e, he, bad⟩))

/-- A Write Group with a good list makes the group of its members, the pointer at the last of them (R115). -/
theorem exec_writeGroup_of_good {t : Nat} {tag b : Byte} {members : List Byte} {s : State}
    (handed : HandedOn (.writeGroup t .cell tag b members) t .cell tag s)
    (good : ¬((b ≠ 1 ∧ b ≠ 2) ∨ 8 < members.length ∨ (∃ m ∈ members, 7 < m.toNat) ∨ ¬members.Nodup)) :
    ∃ s' : State, exec (.writeGroup t .cell tag b members) s = .next s' ∧
      State.Replied t .cell tag .ok [] [.sched] s s' ∧
      ∃ gr : RobinGroup, List.Forall₂ (fun (m : Byte) (h : Fin 8) => h.val = m.toNat) members gr.members ∧
        gr.pointer = gr.members.getLast? ∧ gr.Ok ∧
        s'.sched = (if b = 1 then { s.sched with group1 := gr } else { s.sched with group2 := gr }) := by
  obtain ⟨s', hexec, hreplied, hsched, -⟩ := handed.answered
    ((writeGroupRequest_eq b members _).trans (if_neg good)) (State.withSched_keepsAllBut _ _) (by decide)
  simp only [not_or, not_exists, not_and, not_not, not_lt] at good
  obtain ⟨-, hlen, heads, hnodup⟩ := good
  have named : ∀ m ∈ members, ∃ h, headOf m = some h ∧ h.val = m.toNat := fun m hm =>
    ⟨⟨m.toNat, by have := heads m hm; omega⟩, (headOf_eq_some_iff _ _).mpr rfl, rfl⟩
  refine ⟨s', hexec, hreplied, _, forall₂_filterMap named, rfl,
    RobinGroup.ofMembers_ok ((List.length_filterMap_le _ _).trans hlen) (nodup_filterMap_headOf hnodup), ?_⟩
  simpa using hsched

/-- Settles O35, by the check that fails first in each of the three requests. -/
theorem schedulerListsAreReplacedWhole : Obligations.SchedulerListsAreReplacedWhole := by
  unfold Obligations.SchedulerListsAreReplacedWhole
  intro t tag b entries members s hs hentries hmembers
  refine ⟨fun hlen => ?_, ?_, ?_⟩
  · have handed : HandedOn (.writeSlots t .cell tag b entries) t .cell tag s := handedOn_of_takes rfl rfl hs rfl
      (by simp [RequestCode.lengthSuits, length_pairBytes, Config.payloadMax]; omega)
    by_cases misfit : 1 < b.toNat ∨ entries.length < 1 ∨ 16 < entries.length
    · obtain ⟨s', hexec, hreplied⟩ := handed.refused (writeSlotsRequest_of_misfit _ misfit)
      exact ⟨s', hexec, fun _ => hreplied, fun _ _ _ => absurd misfit (by omega)⟩
    cases hfind : entries.findIdx? fun e => (entryOf e).isNone with
    | some i =>
      obtain ⟨s', hexec, hreplied, -⟩ := handed.answered (writeSlotsRequest_of_badEntry _ misfit hfind)
        (State.keepsAllBut_nil _) (by decide)
      refine ⟨s', hexec, fun h => absurd h misfit, fun _ _ _ => ⟨fun n e he bad first => ?_, fun good => ?_⟩⟩
      · rw [findIdx?_entryOf_eq_some he bad first, Option.some.injEq] at hfind
        rw [hfind]
        exact hreplied
      · rw [(findIdx?_entryOf_eq_none_iff entries).mpr good] at hfind
        cases hfind
    | none =>
      have good := (findIdx?_entryOf_eq_none_iff entries).mp hfind
      obtain ⟨s', hexec, acts⟩ := exec_writeSlots_of_good handed misfit good
      exact ⟨s', hexec, fun h => absurd h misfit, fun _ _ _ =>
        ⟨fun n e he bad _ => absurd (good e (List.mem_of_getElem? he)) bad, fun _ => acts⟩⟩
  · have handed : HandedOn (.writePriority t .cell tag entries) t .cell tag s := handedOn_of_takes rfl rfl hs rfl
      (by simp [RequestCode.lengthSuits, length_pairBytes, Config.payloadMax]; omega)
    by_cases bad : 8 < entries.length ∨ (∃ e ∈ entries, ¬EntryGood e) ∨ ¬(entries.map Prod.fst).Nodup
    · obtain ⟨s', hexec, hreplied⟩ := handed.refused ((writePriorityRequest_eq entries _).trans (if_pos bad))
      refine ⟨s', hexec, fun hlen hgood hnodup => ?_, fun _ => hreplied⟩
      obtain long | ⟨e, he, hbad⟩ | twice := bad
      exacts [absurd hlen (by omega), absurd (hgood e he) hbad, absurd hnodup twice]
    · obtain ⟨s', hexec, acts⟩ := exec_writePriority_of_good handed bad
      exact ⟨s', hexec, fun _ _ _ => acts, fun h => absurd h bad⟩
  · have handed : HandedOn (.writeGroup t .cell tag b members) t .cell tag s := handedOn_of_takes rfl rfl hs rfl
      (by simp [RequestCode.lengthSuits, Config.payloadMax]; omega)
    by_cases bad : (b ≠ 1 ∧ b ≠ 2) ∨ 8 < members.length ∨ (∃ m ∈ members, 7 < m.toNat) ∨ ¬members.Nodup
    · obtain ⟨s', hexec, hreplied⟩ := handed.refused ((writeGroupRequest_eq b members _).trans (if_pos bad))
      refine ⟨s', hexec, fun hb hlen hheads hnodup => ?_, fun _ => hreplied⟩
      obtain ⟨not_one, not_two⟩ | long | ⟨m, hm, hbad⟩ | twice := bad
      exacts [(hb.elim not_one not_two).elim, absurd hlen (by omega), absurd (hheads m hm) (by omega), absurd hnodup twice]
    · obtain ⟨s', hexec, acts⟩ := exec_writeGroup_of_good handed bad
      exact ⟨s', hexec, fun _ _ _ _ => acts, fun h => absurd h bad⟩

end Sys2Proof.Machine

/-! SUPPORT. Switch Slots. -/

namespace Sys2Proof.Machine

/-! ### Switch Slots (R111, R112) -/

/-- One raise raises exactly its kind (R174). -/
theorem State.raisedExactly_raise (k : EventKind) (s : State) : s.RaisedExactly [k] (s.raise k) := by
  intro n
  by_cases hn : n = k.code
  · subst hn
    rw [State.raise_get_same]
    simp
  · rw [State.raise_get_other s hn]
    simp [hn]

/-- The state in which a switch has taken effect at once: the set active at position 0, SLOTS SWITCHED raised (R112). -/
def State.switchedTo (n : SetName) (s : State) : State :=
  { s.raise .slotsSwitched with sched := { s.sched with active := n, position := 0 } }

theorem State.switchedTo_keepsAllBut (n : SetName) (s : State) : s.KeepsAllBut [.sched, .events] (s.switchedTo n) :=
  ((s.raise_keepsAllBut .slotsSwitched).trans (State.withSched_keepsAllBut _ _)).mono (by simp)

/-- With no switch pending, one that takes effect at once leaves none (R112). -/
theorem State.applySwitch_atOnce {s : State} (n : SetName) (h : s.sched.switchTo = none) :
    ({ s with sched := { s.sched with switchTo := some n } } : State).applySwitch =
      ({ s with sched := { s.sched with active := n } } : State).raise .slotsSwitched := by
  simp [State.applySwitch, h]

/-- The checks of a Switch Slots in order, and what it does when they pass (R111). -/
theorem switchSlotsRequest_eq (b : Byte) (s : State) :
    switchSlotsRequest b s =
      let set : SetName := if b = 0 then .a else .b
      if 1 < b.toNat then (s, some (refusal .range))
      else if s.sched.switchTo.isSome = true then (s, some (refusal .busy))
      else if s.sched.entries set = [] then (s, some (refusal .empty))
      else if s.sched.active = set then (s, some (okReply [0]))
      else if s.cell.state.running = true then
        ({ s with sched := { s.sched with switchTo := some set } }, some (okReply [1]))
      else (s.switchedTo set, some (okReply [0])) := by
  rw [switchSlotsRequest, setNameOf_eq]
  by_cases hb : 1 < b.toNat
  · simp only [if_pos hb]
  by_cases pending : s.sched.switchTo.isSome = true
  · simp only [if_neg hb, if_pos pending]
  have none_pending : s.sched.switchTo = none := by simpa using pending
  simp only [if_neg hb, if_neg pending, State.applySwitch_atOnce _ none_pending, @eq_comm _ s.sched.active]
  rfl

/-- Settles O36, by the first check of R111 that stops the request, and by the cell's state when none does. -/
theorem switchSlotsWaitsForTheFrameEnd : Obligations.SwitchSlotsWaitsForTheFrameEnd := by
  unfold Obligations.SwitchSlotsWaitsForTheFrameEnd
  intro t tag b s hs
  have handed : HandedOn (.switchSlots t .cell tag b) t .cell tag s := handedOn_of_takes rfl rfl hs rfl rfl
  have request := switchSlotsRequest_eq b (s.handed t .cell)
  simp only [State.handed_sched, State.handed_cell] at request
  generalize (if b = 0 then SetName.a else SetName.b) = set at request ⊢
  dsimp only
  by_cases hb : 1 < b.toNat
  · simp only [if_pos hb]
    exact handed.refused (request.trans (if_pos hb))
  replace request := request.trans (if_neg hb)
  by_cases pending : s.sched.switchTo.isSome = true
  · simp only [if_neg hb, if_pos pending]
    exact handed.refused (request.trans (if_pos pending))
  replace request := request.trans (if_neg pending)
  by_cases empty : s.sched.entries set = []
  · simp only [if_neg hb, if_neg pending, if_pos empty]
    exact handed.refused (request.trans (if_pos empty))
  replace request := request.trans (if_neg empty)
  by_cases active : s.sched.active = set
  · simp only [if_neg hb, if_neg pending, if_neg empty, if_pos active]
    obtain ⟨s', hexec, hreplied, -⟩ := handed.answered (request.trans (if_pos active))
      (State.keepsAllBut_nil _) (by decide)
    exact ⟨s', hexec, hreplied⟩
  replace request := request.trans (if_neg active)
  simp only [if_neg hb, if_neg pending, if_neg empty, if_neg active]
  by_cases runs : s.cell.state.running = true
  · simp only [if_pos runs]
    obtain ⟨s', hexec, hreplied, hsched, -⟩ := handed.answered (request.trans (if_pos runs))
      (State.withSched_keepsAllBut _ _) (by decide)
    exact ⟨s', hexec, hreplied, by simpa using hsched⟩
  · simp only [if_neg runs]
    obtain ⟨s', hexec, hreplied, hsched, hevents⟩ := handed.answered (request.trans (if_neg runs))
      (State.switchedTo_keepsAllBut set _) (by decide)
    refine ⟨s', hexec, hreplied, ?_, by simpa [State.switchedTo] using hsched⟩
    have raised := State.raisedExactly_raise .slotsSwitched (s.handed t .cell)
    simpa only [State.RaisedExactly, hevents, State.switchedTo, State.handed_events] using raised

end Sys2Proof.Machine

/-! SUPPORT. The counts of the events: what a list of raises adds to each kind (R174). -/

namespace Sys2Proof.Machine

/-! ### Lists of raises -/

theorem EventKind.code_injective : Function.Injective EventKind.code := by
  intro k k' h
  revert h
  cases k <;> cases k' <;> decide

/-- States with the same events stand in the same count of raises. -/
theorem State.RaisedCounting.of_events_eq {kinds : List EventKind} {s s' s'' : State} (h : s.RaisedCounting kinds s')
    (e : s''.events = s'.events) : s.RaisedCounting kinds s'' := by
  simpa only [State.RaisedCounting, e] using h

/-- The raises of two steps in turn are those of the first and then those of the second. -/
theorem State.RaisedCounting.trans {kinds kinds' : List EventKind} {s s' s'' : State} (h : s.RaisedCounting kinds s')
    (h' : s'.RaisedCounting kinds' s'') : s.RaisedCounting (kinds ++ kinds') s'' := by
  intro n
  rw [h' n, h n, ← Function.iterate_add_apply, List.map_append, List.count_append, Nat.add_comm]

/-- A list of raises, one after the other, raises each kind as often as it is listed. -/
theorem State.raisedCounting_foldl (kinds : List EventKind) (s : State) :
    s.RaisedCounting kinds (kinds.foldl (fun s k => s.raise k) s) := by
  induction kinds generalizing s with
  | nil => exact s.raisedCounting_nil
  | cons k kinds ih => exact (s.raisedCounting_nil.raise k).trans (ih (s.raise k))

/-! ### The count after a list of raises -/

theorem EventEntry.raised_of_clear {e : EventEntry} (h : e.pending = false) :
    e.raised = { e with pending := true, count := 1 } := by simp [EventEntry.raised, h]

theorem EventEntry.raised_of_set {e : EventEntry} (h : e.pending = true) :
    e.raised = { e with count := min 255 (e.count + 1) } := by simp [EventEntry.raised, h]

/-- A clear entry counts 0, so every raise adds one to the count, up to 255 (R173, R174). -/
theorem EventEntry.raised_eq {e : EventEntry} (h : e.pending = true ↔ 0 < e.count) :
    e.raised = { e with pending := true, count := min 255 (e.count + 1) } := by
  cases hp : e.pending with
  | false =>
    have count_eq : e.count = 0 := by simpa [hp] using h
    rw [EventEntry.raised_of_clear hp, count_eq]
    rfl
  | true => rw [EventEntry.raised_of_set hp, ← hp]

theorem EventEntry.iterate_raised {e : EventEntry} (h : e.pending = true ↔ 0 < e.count) (hmax : e.count ≤ 255) (n : Nat) :
    EventEntry.raised^[n] e = { e with pending := e.pending || decide (0 < n), count := min 255 (e.count + n) } := by
  induction n with
  | zero => simp [hmax]
  | succ n ih =>
    rw [Function.iterate_succ_apply', ih, EventEntry.raised_eq]
    · simp only [EventEntry.mk.injEq, and_true]
      exact ⟨by simp, by omega⟩
    · simp only [Bool.or_eq_true, decide_eq_true_eq, h]
      omega

/-- What a list of raises leaves at a kind: the flag set if the kind is listed, the count up by the times it is (R174). -/
theorem State.RaisedCounting.get {kinds : List EventKind} {s s' : State} (h : s.RaisedCounting kinds s') (ok : s.EventsOk)
    (k : EventKind) :
    s'.events.get k.code = { s.events.get k.code with
      pending := (s.events.get k.code).pending || kinds.contains k,
      count := min 255 ((s.events.get k.code).count + kinds.count k) } := by
  have ⟨flag_iff, hmax⟩ := ok k.code
  rw [h k.code, List.count_map_of_injective _ _ EventKind.code_injective, EventEntry.iterate_raised flag_iff hmax]
  simp [List.count_pos_iff]

end Sys2Proof.Machine

/-! SUPPORT. What a trip raises: each heating joint is rejected once, and the cell trips (R147, R148). -/

namespace Sys2Proof.Machine

/-! ### The keys and states of the records -/

/-- The key and the state of each record, in the order of the slots. -/
def State.keyStates (s : State) : List (Key × JointState) := s.table.records.map fun x => (x.2.key, x.2.state)

theorem State.keyStates_congr {s s' : State} (e : s'.table = s.table) : s'.keyStates = s.keyStates := by
  simp only [State.keyStates, e]

/-- The heating records, counted over the keys and states. -/
theorem State.countP_keyStates (s : State) :
    s.keyStates.countP (fun y => y.2.heating) = s.table.records.countP fun x => x.2.state.heating := by
  rw [State.keyStates, List.countP_map]
  rfl

/-- No two records hold one key (R1). -/
theorem State.nodup_keyStates {s : State} (ok : s.TableOk) : (s.keyStates.map Prod.fst).Nodup := by
  obtain ⟨-, -, keys, -, -⟩ := ok
  rw [State.keyStates, List.map_map]
  exact List.pairwise_map.mpr keys

theorem State.mem_keyStates_of_joint {s : State} {k : Key} {j : Joint} (h : s.joint k = some j) :
    (k, j.state) ∈ s.keyStates := by
  obtain ⟨n, hn⟩ := State.joint_mem h
  exact List.mem_map.mpr ⟨(n, j), hn, by rw [State.joint_key h]⟩

/-- Where the keys are distinct, a key and a state that stand together are those of the record found by the key. -/
theorem State.joint_of_mem_keyStates {s : State} {y : Key × JointState} (distinct : (s.keyStates.map Prod.fst).Nodup)
    (hy : y ∈ s.keyStates) : ∃ j, s.joint y.1 = some j ∧ j.state = y.2 := by
  obtain ⟨x, hx, rfl⟩ := List.mem_map.mp hy
  cases hj : s.joint x.2.key with
  | none =>
    simp only [State.joint, State.slotOf, Option.map_eq_none_iff, List.find?_eq_none, decide_eq_true_eq] at hj
    exact absurd rfl (hj x hx)
  | some j =>
    have same := List.inj_on_of_nodup_map distinct (State.mem_keyStates_of_joint hj) hy rfl
    exact ⟨j, rfl, congrArg Prod.snd same⟩

/-- A change of a record that keeps its key and its state. -/
theorem State.modJoint_keyStates_of_same (k : Key) {f : Joint → Joint} (s : State)
    (hf : ∀ j, (f j).key = j.key ∧ (f j).state = j.state) : (s.modJoint k f).keyStates = s.keyStates := by
  simp only [State.keyStates, State.modJoint_table, List.map_map]
  refine List.map_congr_left fun x _ => ?_
  simp only [Function.comp_apply]
  split
  · rw [(hf x.2).1, (hf x.2).2]
  · rfl

/-- A cut changes the energy of a record alone (R87, R106). -/
@[simp] theorem State.cutIfGranted_keyStates (h : Fin 8) (s : State) : (s.cutIfGranted h).keyStates = s.keyStates := by
  have account : ∀ (onTime : Nat) (s : State), (s.closeAccount onTime).keyStates = s.keyStates := by
    intro onTime s
    unfold State.closeAccount
    split
    · rfl
    · exact State.modJoint_keyStates_of_same _ _ fun _ => ⟨rfl, rfl⟩
  have cut : s.cutOutput.keyStates = s.keyStates := by
    unfold State.cutOutput
    split
    · rfl
    · split
      · exact (account _ _).trans (State.keyStates_congr (by simp))
      · rfl
  unfold State.cutIfGranted
  split
  · exact cut
  · rfl

theorem State.rejectJoint_keyStates (k : Key) (c : RejectCause) (s : State) :
    (s.rejectJoint k c).keyStates = s.keyStates.map fun y => if y.1 = k then (y.1, .rejected) else y := by
  simp only [State.keyStates, State.rejectJoint, State.raise_table, State.modJoint_table, List.map_map]
  refine List.map_congr_left fun x _ => ?_
  simp only [Function.comp_apply]
  split <;> rfl

/-- Where the keys are distinct, one record that stops heating is one heating record less. -/
theorem countP_heating_reject {ys : List (Key × JointState)} {k : Key} {st : JointState}
    (distinct : (ys.map Prod.fst).Nodup) (hmem : (k, st) ∈ ys) (heats : st.heating = true) :
    (ys.map fun y => if y.1 = k then (y.1, JointState.rejected) else y).countP (fun y => y.2.heating) + 1 =
      ys.countP fun y => y.2.heating := by
  induction ys with
  | nil => cases hmem
  | cons y ys ih =>
    obtain ⟨fresh, distinct⟩ := List.nodup_cons.mp distinct
    simp only [List.map_cons, List.countP_cons]
    by_cases hy : y.1 = k
    · have absent : ∀ z ∈ ys, z.1 ≠ k := fun z hz e => fresh (List.mem_map.mpr ⟨z, hz, e.trans hy.symm⟩)
      have tail : ys.map (fun y => if y.1 = k then (y.1, JointState.rejected) else y) = ys :=
        (List.map_congr_left fun z hz => if_neg (absent z hz)).trans ys.map_id'
      have head : (k, st) = y := (List.mem_cons.mp hmem).resolve_right fun hz => absent _ hz rfl
      subst head
      have cold : JointState.rejected.heating = false := rfl
      simp [tail, heats, cold]
    · have hmem : (k, st) ∈ ys := (List.mem_cons.mp hmem).resolve_left fun e => hy (congrArg Prod.fst e).symm
      rw [if_neg hy, ← ih distinct hmem]
      omega

/-! ### One rejection (R60, R62) -/

/-- A change of a head record that keeps its bound key keeps the record found through it. -/
theorem State.boundJoint_modHead {h : Fin 8} {f : Head → Head} {s : State}
    (hf : (f (s.head h)).bound = (s.head h).bound) : (s.modHead h f).boundJoint h = s.boundJoint h := by
  rw [State.boundJoint, State.boundJoint, State.head_modHead_same, hf]
  rfl

/-- A head whose record is not in COOL begins to cool with no record changed and nothing raised (R62, R64). -/
theorem State.beginCooling_of_not_cool {h : Fin 8} {s : State} (coolTime : Nat)
    (hj : ∀ j ∈ s.boundJoint h, j.state ≠ .cool) :
    (s.beginCooling h coolTime).table = s.table ∧ (s.beginCooling h coolTime).events = s.events := by
  have expires : ∀ s' : State, (∀ j ∈ s'.boundJoint h, j.state ≠ .cool) →
      (s'.expireCooling h).table = s'.table ∧ (s'.expireCooling h).events = s'.events := by
    intro s' hj'
    unfold State.expireCooling
    split
    · next j e => simp [hj' j e]
    · simp
  unfold State.beginCooling
  split
  · refine expires _ ?_
    rwa [State.boundJoint_modHead rfl]
  · simp

/-- The record of a head heats and is rejected, or it does not heat and nothing happens (R60, R62, R68). -/
theorem State.rejectToCooling_cases (h : Fin 8) (c : RejectCause) (s : State) :
    (∃ k j, (s.head h).bound = some k ∧ s.joint k = some j ∧ j.state.heating = true ∧
      (s.rejectToCooling h c).keyStates = (s.rejectJoint k c).keyStates ∧
      (s.rejectToCooling h c).events = (s.raise .jointRejected).events) ∨
    ((∀ k j, (s.head h).bound = some k → s.joint k = some j → j.state.heating = false) ∧ s.rejectToCooling h c = s) := by
  by_cases heats : ∃ j ∈ s.boundJoint h, j.state.heating = true
  · obtain ⟨j, hj, heats⟩ := heats
    obtain ⟨k, hk, hjoint⟩ := Option.bind_eq_some_iff.mp hj
    cases State.joint_key hjoint
    refine .inl ⟨j.key, j, hk, hjoint, heats, ?_⟩
    have rejected : s.rejectToCooling h c =
        ((s.rejectJoint j.key c).cutIfGranted h).beginCooling h (s.profileOf j).fields.coolTime := by
      rw [State.rejectToCooling, hj]
      exact if_pos heats
    have not_cool : ∀ j' ∈ ((s.rejectJoint j.key c).cutIfGranted h).boundJoint h, j'.state ≠ .cool := by
      intro j' hj'
      obtain ⟨k', hk', hjoint'⟩ := Option.bind_eq_some_iff.mp hj'
      rw [State.head_congr (s := s) (by simp) h, hk] at hk'
      cases hk'
      have listed := State.mem_keyStates_of_joint hjoint'
      rw [State.cutIfGranted_keyStates, State.rejectJoint_keyStates] at listed
      obtain ⟨y, -, hy⟩ := List.mem_map.mp listed
      split at hy
      · exact fun cool => by simp [cool] at hy
      · next other => exact fun _ => other (congrArg Prod.fst hy)
    obtain ⟨table_eq, events_eq⟩ := State.beginCooling_of_not_cool (s.profileOf j).fields.coolTime not_cool
    rw [rejected]
    exact ⟨(State.keyStates_congr table_eq).trans (by simp), events_eq.trans (by simp [State.rejectJoint])⟩
  · refine .inr ⟨fun k j hk hj => ?_, State.rejectToCooling_of_not_heating h c s fun j hj => ?_⟩
    · by_contra hot
      exact heats ⟨j, by simp [State.boundJoint, hk, hj], by simpa using hot⟩
    · by_contra hot
      exact heats ⟨j, hj, by simpa using hot⟩

/-- A rejection takes no binding away (R60, R62). -/
theorem State.rejectToCooling_bound (h h' : Fin 8) (c : RejectCause) (s : State) :
    ((s.rejectToCooling h c).head h').bound = (s.head h').bound := by
  have cooled : ∀ (coolTime : Nat) (s : State), ((s.beginCooling h coolTime).head h').bound = (s.head h').bound := by
    intro coolTime s
    have e : (s.beginCooling h coolTime).head h' = (s.setHead h ((s.head h).cooled s.now coolTime)).head h' :=
      State.head_congr (by rw [State.beginCooling_heads]; rfl) h'
    rw [e]
    by_cases hne : h' = h
    · subst hne
      simp
    · rw [State.head_setHead_other _ _ hne]
  unfold State.rejectToCooling
  split
  · split
    · rw [cooled, State.head_congr (s := s) (by simp)]
    · rfl
  · rfl

/-- One head after another, each heating record is rejected once, if the heads to come hold all that heat (R147, R153). -/
theorem State.raisedCounting_rejections (c : RejectCause) (heads : List (Fin 8)) {s : State}
    (distinct : (s.keyStates.map Prod.fst).Nodup)
    (held : ∀ y ∈ s.keyStates, y.2.heating = true → ∃ h ∈ heads, (s.head h).bound = some y.1) :
    s.RaisedCounting (List.replicate (s.keyStates.countP fun y => y.2.heating) .jointRejected)
      (heads.foldl (fun s h => s.rejectToCooling h c) s) := by
  induction heads generalizing s with
  | nil =>
    have cold : (s.keyStates.countP fun y => y.2.heating) = 0 :=
      List.countP_eq_zero.mpr fun y hy heats => by simpa using held y hy heats
    rw [cold]
    exact s.raisedCounting_nil
  | cons h heads ih =>
    obtain ⟨k, j, hbound, hj, heats, keys_eq, events_eq⟩ | ⟨cold, same⟩ := s.rejectToCooling_cases h c
    · rw [State.rejectJoint_keyStates] at keys_eq
      have keys_kept : (s.rejectToCooling h c).keyStates.map Prod.fst = s.keyStates.map Prod.fst := by
        rw [keys_eq, List.map_map]
        refine List.map_congr_left fun y _ => ?_
        simp only [Function.comp_apply]
        split <;> rfl
      have rest := ih (s := s.rejectToCooling h c) (by rwa [keys_kept]) fun y hy hot => by
        rw [keys_eq] at hy
        obtain ⟨z, hz, rfl⟩ := List.mem_map.mp hy
        by_cases hzk : z.1 = k
        · simp [hzk, JointState.heating] at hot
        · simp only [if_neg hzk] at hot ⊢
          obtain ⟨h', hmem, hh'⟩ := held z hz hot
          have other : h' ≠ h := fun e => hzk (Option.some.inj (hh'.symm.trans (e ▸ hbound)))
          exact ⟨h', (List.mem_cons.mp hmem).resolve_left other, by rwa [State.rejectToCooling_bound]⟩
      have one := (s.raisedCounting_nil.raise .jointRejected).of_events_eq events_eq
      have total := countP_heating_reject distinct (State.mem_keyStates_of_joint hj) heats
      rw [← keys_eq] at total
      rw [← total, Nat.add_comm, ← List.replicate_append_replicate]
      exact one.trans rest
    · have held' : ∀ y ∈ s.keyStates, y.2.heating = true → ∃ h ∈ heads, (s.head h).bound = some y.1 := by
        intro y hy hot
        obtain ⟨h', hmem, hh'⟩ := held y hy hot
        obtain ⟨j, hj, hstate⟩ := State.joint_of_mem_keyStates distinct hy
        have other : h' ≠ h := fun e => by
          have := cold _ j (e ▸ hh') hj
          rw [hstate, hot] at this
          cases this
        exact ⟨h', (List.mem_cons.mp hmem).resolve_left other, hh'⟩
      rw [List.foldl_cons, same]
      exact ih distinct held'

/-! ### All heating records, and the trip (R147, R148) -/

/-- With the bindings in order, the rejection of every heating joint raises JOINT REJECTED once for each (R147, R153). -/
theorem State.raisedCounting_rejectAll (c : RejectCause) {s : State} (table : s.TableOk) (bindings : s.BindingsOk) :
    s.RaisedCounting (List.replicate (s.table.records.countP fun x => x.2.state.heating) .jointRejected)
      (s.rejectAll c) := by
  obtain ⟨-, records⟩ := bindings
  rw [← State.countP_keyStates]
  refine State.raisedCounting_rejections c allHeads (State.nodup_keyStates table) fun y hy heats => ?_
  obtain ⟨x, hx, rfl⟩ := List.mem_map.mp hy
  have bound := records x hx
  unfold State.jointBindingOk at bound
  split at bound
  · next h _ =>
    have every : ∀ h : Fin 8, h ∈ allHeads := by decide
    exact ⟨h, every h, (of_decide_eq_true bound).1⟩
  · cases hstate : x.2.state <;> simp_all [JointState.heating]

/-- A cut does not touch the pending switch. -/
theorem State.cutOutput_switchTo (s : State) : s.cutOutput.sched.switchTo = s.sched.switchTo := by
  unfold State.cutOutput
  split
  · rfl
  · split
    · simp
    · rfl

/-- A rejection does not touch the pending switch. -/
theorem State.rejectToCooling_switchTo (h : Fin 8) (c : RejectCause) (s : State) :
    (s.rejectToCooling h c).sched.switchTo = s.sched.switchTo := by
  have cut : ∀ s : State, (s.cutIfGranted h).sched.switchTo = s.sched.switchTo := by
    intro s
    unfold State.cutIfGranted
    split
    · exact s.cutOutput_switchTo
    · rfl
  unfold State.rejectToCooling
  split
  · split
    · simp [cut]
    · rfl
  · rfl

/-- The stop of the scheduler raises SLOTS SWITCHED where a switch is pending, and nothing else (R97, R112). -/
theorem State.raisedCounting_stopScheduler (s : State) :
    s.RaisedCounting (if s.sched.switchTo.isSome then [.slotsSwitched] else []) s.stopScheduler := by
  have pending := s.cutOutput_switchTo
  unfold State.stopScheduler State.applySwitch
  cases hs : s.sched.switchTo with
  | none =>
    refine s.raisedCounting_nil.of_events_eq ?_
    simp [pending, hs]
  | some n =>
    refine (s.raisedCounting_nil.raise .slotsSwitched).of_events_eq ?_
    simp [pending, hs]

/-- The events of a trip: JOINT REJECTED once for each heating joint, SLOTS SWITCHED where a pending switch takes effect with
the end of a run, and CELL TRIPPED (R97, R147, R148). -/
def State.tripEvents (s : State) : List EventKind :=
  List.replicate (s.table.records.countP fun x => x.2.state.heating) .jointRejected ++
  (if s.cell.state.running ∧ s.sched.switchTo.isSome then [.slotsSwitched] else []) ++ [.cellTripped]

theorem State.count_jointRejected_tripEvents (s : State) :
    s.tripEvents.count .jointRejected = s.table.records.countP fun x => x.2.state.heating := by
  unfold State.tripEvents
  split <;> simp

theorem State.count_cellTripped_tripEvents (s : State) : s.tripEvents.count .cellTripped = 1 := by
  unfold State.tripEvents
  split <;> simp [List.count_replicate]

/-- A trip raises its events: each heating joint is rejected before the cell trips (R147, R148). -/
theorem State.raisedCounting_trip (supply : Bool) {s : State} (table : s.TableOk) (bindings : s.BindingsOk)
    (runs : s.HeatingOnlyRunning) : s.RaisedCounting s.tripEvents (s.trip supply) := by
  have rejected : s.RaisedCounting (List.replicate (s.table.records.countP fun x => x.2.state.heating) .jointRejected)
      (if s.cell.state = .tripped then s else s.rejectAll (if supply then .supply else .generator)) := by
    split
    · next tripped =>
      have cold : (s.table.records.countP fun x => x.2.state.heating) = 0 :=
        List.countP_eq_zero.mpr fun x hx heats => by simpa [tripped, CellState.running] using runs x hx heats
      rw [cold]
      exact s.raisedCounting_nil
    · exact State.raisedCounting_rejectAll _ table bindings
  refine (rejected.trans ?_).raise .cellTripped
  have switch_eq : (if s.cell.state = .tripped then s
      else s.rejectAll (if supply then .supply else .generator)).sched.switchTo = s.sched.switchTo := by
    split
    · rfl
    · exact State.rejectAll_keeps (fun s => s.sched.switchTo) _ _ fun h s => s.rejectToCooling_switchTo h _
  generalize (if s.cell.state = .tripped then s else s.rejectAll (if supply then .supply else .generator)) = s₁
    at switch_eq ⊢
  rw [← switch_eq]
  by_cases running : s.cell.state.running = true
  · rw [if_pos running]
    simp only [running, true_and]
    exact State.raisedCounting_stopScheduler _
  · rw [if_neg fun h => running h.1, if_neg running]
    exact s₁.raisedCounting_nil

/-! ### The raises of an event (R174) -/

/-- The state in which an assertion of the fault line trips the cell: sampled, the generator clear flag cleared (R146). -/
def State.lineAsserted (t : Nat) (s : State) : State :=
  let s := s.arrive t s.cell.faultLineDue
  { s with cell := { s.cell with faultLine := true, faultLineDue := s.now + 1000, clearFlag := false } }

/-- A sample that finds the fault line newly low is a trip with cause GENERATOR (R146, R148). -/
theorem exec_faultLineSample_of_assertion (t : Nat) {s : State} (out : s.phase ≠ .held) (was : s.cell.faultLine = false) :
    exec (.faultLineSample t true) s = .next ((s.lineAsserted t).trip false) := by
  have opens : exec (.faultLineSample t true) s = whileOutOfReset (faultLineSample t true) s := rfl
  rw [opens, whileOutOfReset_of_not_held _ _ out]
  simp [faultLineSample, was, Config.sampleTime, State.lineAsserted]

/-- Settles O47: one raise by the flag it finds, a list of raises by its count, an assertion by what its trip raises. -/
theorem aRaiseSetsTheFlagAndCounts : Obligations.ARaiseSetsTheFlagAndCounts := by
  unfold Obligations.ARaiseSetsTheFlagAndCounts
  refine ⟨fun k s => ⟨fun clear => ?_, fun set => ?_, fun n hn => s.raise_get_other hn, s.raise_keepsAllBut k⟩,
    fun kinds k s ok => (s.raisedCounting_foldl kinds).get ok k, fun t s out table bindings runs ok was => ?_⟩
  · rw [State.raise_get_same, EventEntry.raised_of_clear clear]
  · rw [State.raise_get_same, EventEntry.raised_of_set set]
  · have raised : s.RaisedCounting s.tripEvents ((s.lineAsserted t).trip false) :=
      State.raisedCounting_trip false (s := s.lineAsserted t) table bindings runs
    have listed : s.tripEvents.contains .cellTripped = true := by simp [State.tripEvents]
    refine ⟨_, exec_faultLineSample_of_assertion t out was, ?_⟩
    simp only [raised.get ok, State.count_jointRejected_tripEvents, State.count_cellTripped_tripEvents, listed, Bool.or_true,
      and_self]

end Sys2Proof.Machine

/-! SUPPORT. The Event Unit's requests: Read Events, Acknowledge Events and Set Levels. -/

namespace Sys2Proof.Machine

/-! ### Coded bytes (R170) -/

theorem kindOf_eq_some_iff (b : Byte) (k : Fin 9) : kindOf b = some k ↔ k.val = b.toNat := by
  unfold kindOf
  split <;> simp [Fin.ext_iff] <;> omega

/-- A byte names a kind exactly up to 8 (R170). -/
theorem kindOf_isNone_iff (b : Byte) : (kindOf b).isNone = true ↔ 8 < b.toNat := by
  unfold kindOf
  split <;> simp <;> omega

theorem levelOf_eq_some_iff (b : Byte) (l : Fin 4) : levelOf b = some l ↔ l.val = b.toNat := by
  unfold levelOf
  split <;> simp [Fin.ext_iff] <;> omega

/-- A byte names a level exactly up to 3 (R170). -/
theorem levelOf_isNone_iff (b : Byte) : (levelOf b).isNone = true ↔ 3 < b.toNat := by
  unfold levelOf
  split <;> simp <;> omega

theorem levelPairOf_eq_some_iff (e : Byte × Byte) (x : Fin 9 × Fin 4) :
    levelPairOf e = some x ↔ x.1.val = e.1.toNat ∧ x.2.val = e.2.toNat := by
  rw [← kindOf_eq_some_iff, ← levelOf_eq_some_iff, levelPairOf]
  cases kindOf e.1 <;> cases levelOf e.2 <;> simp [Prod.ext_iff]

theorem levelPairOf_isNone_iff (e : Byte × Byte) :
    (levelPairOf e).isNone = true ↔ 8 < e.1.toNat ∨ 3 < e.2.toNat := by
  rw [← kindOf_isNone_iff, ← levelOf_isNone_iff, levelPairOf]
  cases kindOf e.1 <;> cases levelOf e.2 <;> simp

/-! ### ATTN (R175) -/

theorem mem_allKinds (k : Fin 9) : k ∈ allKinds := by
  revert k
  decide

@[simp] theorem State.handed_phase (t : Nat) (l : Link) (s : State) : (s.handed t l).phase = s.phase := by
  simp [State.handed]

/-- ATTN is read from the phase and the events alone. -/
theorem State.attn_congr {s s' : State} (phase_eq : s'.phase = s.phase) (events_eq : s'.events = s.events) :
    s'.attn = s.attn := by
  simp only [State.attn, phase_eq, events_eq]

/-- While the part operates, ATTN is high exactly while a kind is pending at level 0, 1 or 2 (R175). -/
theorem State.attn_iff {s : State} (operates : s.phase = .operating) :
    s.attn = true ↔ ∃ k : Fin 9, (s.events.get k).pending = true ∧ (s.events.get k).level ≠ 3 := by
  simp [State.attn, operates, mem_allKinds]

/-- A request that its block answers with ATTN after it, leaving nothing but the events changed. -/
theorem HandedOn.answered_attn {i : Instr} {t : Nat} {l : Link} {tag : Byte} {s s₁ : State} (h : HandedOn i t l tag s)
    (hop : requestOp i (s.handed t l) = (s₁, some (okReply [boolByte s₁.attn])))
    (hk : (s.handed t l).KeepsAllBut [.events] s₁) :
    ∃ s', exec i s = .next s' ∧ State.Replied t l tag .ok [if s'.attn then 1 else 0] [.events] s s' ∧
      s'.events = s₁.events := by
  obtain ⟨s', hexec, hreplied, -, hevents⟩ := h.answered hop hk (by decide)
  have ⟨_, _, _, keeps⟩ := hreplied
  have phase_eq : s'.phase = s₁.phase :=
    (keeps .phase (by decide)).trans ((hk.2 .phase (by decide)).trans (s.handed_phase t l)).symm
  refine ⟨s', hexec, ?_, hevents⟩
  rw [State.attn_congr phase_eq hevents]
  exact hreplied

/-! ### Read Events (R176) -/

theorem mem_pendingKinds (ev : Vector EventEntry 9) (k : Fin 9) : k ∈ pendingKinds ev ↔ (ev.get k).pending = true := by
  have levels : ∀ l : Fin 4, l ∈ ([0, 1, 2, 3] : List (Fin 4)) := by decide
  simp only [pendingKinds, List.mem_flatMap, List.mem_filter, mem_allKinds, true_and, decide_eq_true_eq]
  exact ⟨fun ⟨_, _, pending, _⟩ => pending, fun pending => ⟨_, levels _, pending, rfl⟩⟩

/-- The pending kinds rise by level, and by code where the level is the same (R176). -/
theorem pairwise_pendingKinds (ev : Vector EventEntry 9) :
    (pendingKinds ev).Pairwise fun a b => (ev.get a).level < (ev.get b).level ∨
      ((ev.get a).level = (ev.get b).level ∧ a < b) := by
  have codes_rise : allKinds.Pairwise (· < ·) := by decide
  have levels_rise : ([0, 1, 2, 3] : List (Fin 4)).Pairwise (· < ·) := by decide
  have level_of : ∀ (l : Fin 4) (k : Fin 9),
      k ∈ (allKinds.filter fun k => (ev.get k).pending ∧ (ev.get k).level = l) → (ev.get k).level = l := by
    intro l k hk
    exact (of_decide_eq_true (List.mem_filter.mp hk).2).2
  refine List.pairwise_flatMap.mpr ⟨fun l _ => ?_, levels_rise.imp fun hlt a ha b hb => .inl ?_⟩
  · exact (codes_rise.filter _).imp_of_mem fun ha hb hlt => .inr ⟨(level_of l _ ha).trans (level_of l _ hb).symm, hlt⟩
  · rw [level_of _ a ha, level_of _ b hb]
    exact hlt

/-- The answer of a Read Events: the pending kinds, the nine levels and ATTN (R176). -/
theorem eventsBytes_eq (ev : Vector EventEntry 9) (attn : Bool) :
    eventsBytes ev attn = byteOf (pendingKinds ev).length ::
      ((pendingKinds ev).flatMap fun k => [byteOf k.val, byteOf (ev.get k).level.val, byteOf (ev.get k).count]) ++
      (List.finRange 9).map (fun k => byteOf (ev.get k).level.val) ++ [if attn then 1 else 0] := by
  have kinds_eq : List.finRange 9 = allKinds := by decide
  rw [kinds_eq, eventsBytes, counted, List.length_map, ← List.flatMap_def]
  rfl

/-- Settles O48, by the list of pending kinds that the answer is made of. -/
theorem readEventsListsByLevelThenCode : Obligations.ReadEventsListsByLevelThenCode := by
  unfold Obligations.ReadEventsListsByLevelThenCode
  intro t tag s hs
  have handed : HandedOn (.readEvents t .cell tag) t .cell tag s := handedOn_of_takes rfl rfl hs rfl rfl
  have ⟨operates, _, _⟩ := hs
  have request : requestOp (.readEvents t .cell tag) (s.handed t .cell) =
      (s.handed t .cell, some (okReply (eventsBytes s.events s.attn))) := by
    have attn_eq : (s.handed t .cell).attn = s.attn := State.attn_congr (by simp) (by simp)
    simp only [requestOp, readEventsRequest, attn_eq, State.handed_events]
  obtain ⟨s', hexec, hreplied, -⟩ := handed.answered request (State.keepsAllBut_nil _) (by decide)
  rw [eventsBytes_eq] at hreplied
  refine ⟨s', pendingKinds s.events, hexec, mem_pendingKinds s.events, pairwise_pendingKinds s.events, ?_⟩
  simp only [← State.attn_iff operates]
  exact hreplied

/-! ### Acknowledge Events (R177) -/

theorem State.clearKind_get_same (k : Fin 9) (s : State) :
    (s.clearKind k).events.get k = { s.events.get k with pending := false, count := 0 } := by
  simp [Vector.get_eq_getElem]

theorem State.clearKind_get_other {k n : Fin 9} (s : State) (h : n ≠ k) :
    (s.clearKind k).events.get n = s.events.get n := by
  have : k.val ≠ n.val := fun e => h (Fin.ext e.symm)
  simp [Vector.get_eq_getElem, this]

theorem State.clearKind_keepsAllBut (k : Fin 9) (s : State) : s.KeepsAllBut [.events] (s.clearKind k) :=
  ⟨rfl, fun p hp => by cases p <;> simp [State.shares] at hp ⊢⟩

/-- Steps that each keep all but some parts keep all but them together. -/
theorem State.foldl_keepsAllBut {α : Type} {changed : List Part} {f : State → α → State} (xs : List α) (s : State)
    (hf : ∀ (x : α) (s : State), s.KeepsAllBut changed (f s x)) : s.KeepsAllBut changed (xs.foldl f s) := by
  induction xs generalizing s with
  | nil => exact s.keepsAllBut_nil.mono (List.nil_subset _)
  | cons x xs ih => exact ((hf x s).trans (ih (f s x))).mono (by simp)

/-- A list of kinds cleared in turn clears exactly the kinds in it. -/
theorem State.foldl_clearKind_get (ks : List (Fin 9)) (k : Fin 9) (s : State) :
    (ks.foldl (fun s k => s.clearKind k) s).events.get k =
      if k ∈ ks then { s.events.get k with pending := false, count := 0 } else s.events.get k := by
  induction ks generalizing s with
  | nil => rfl
  | cons a ks ih =>
    rw [List.foldl_cons, ih]
    by_cases hk : k = a
    · subst hk
      simp only [State.clearKind_get_same, List.mem_cons, true_or, if_true, ite_self]
    · simp only [State.clearKind_get_other s hk, List.mem_cons, hk, false_or]

theorem mem_filterMap_kindOf (kinds : List Byte) (k : Fin 9) :
    k ∈ kinds.filterMap kindOf ↔ ∃ b ∈ kinds, b.toNat = k.val := by
  simp only [List.mem_filterMap, kindOf_eq_some_iff, @eq_comm Nat k.val]

theorem acknowledgeEventsRequest_of_bad {kinds : List Byte} {n : Nat} (s : State)
    (hn : (kinds.findIdx? fun b => (kindOf b).isNone) = some n) :
    acknowledgeEventsRequest kinds s = (s, some (refusalAt .range n)) := by
  simp only [acknowledgeEventsRequest, hn]

theorem acknowledgeEventsRequest_of_good {kinds : List Byte} (s : State)
    (hn : (kinds.findIdx? fun b => (kindOf b).isNone) = none) :
    acknowledgeEventsRequest kinds s =
      let s' := (kinds.filterMap kindOf).foldl (fun s k => s.clearKind k) s
      (s', some (okReply [boolByte s'.attn])) := by
  simp only [acknowledgeEventsRequest, hn]

/-- The first code above 8 is the one that the search finds. -/
theorem findIdx?_kindOf_eq_some {kinds : List Byte} {n : Nat} {b : Byte} (hb : kinds[n]? = some b) (bad : 8 < b.toNat)
    (first : ∀ m b', m < n → kinds[m]? = some b' → b'.toNat ≤ 8) :
    (kinds.findIdx? fun b => (kindOf b).isNone) = some n := by
  obtain ⟨hn, rfl⟩ := List.getElem?_eq_some_iff.mp hb
  refine List.findIdx?_eq_some_iff_getElem.mpr ⟨hn, (kindOf_isNone_iff _).mpr bad, fun m hm => ?_⟩
  rw [kindOf_isNone_iff, not_lt]
  exact first m _ hm (List.getElem?_eq_getElem (by omega))

theorem findIdx?_kindOf_eq_none_iff (kinds : List Byte) :
    (kinds.findIdx? fun b => (kindOf b).isNone) = none ↔ ∀ b ∈ kinds, b.toNat ≤ 8 := by
  simp only [List.findIdx?_eq_none_iff, ← Bool.not_eq_true, kindOf_isNone_iff, not_lt]

/-- What an Acknowledge Events does: RANGE at the first code above 8, or exactly the kinds named cleared (R177). -/
theorem exec_acknowledgeEvents {t : Nat} {tag : Byte} {kinds : List Byte} {s : State} (hs : s.Takes .cell)
    (fits : kinds.length ≤ 250) :
    ∃ s' : State, exec (.acknowledgeEvents t .cell tag kinds) s = .next s' ∧
      (∀ n b, kinds[n]? = some b → 8 < b.toNat → (∀ m b', m < n → kinds[m]? = some b' → b'.toNat ≤ 8) →
        State.Replied t .cell tag .range [byteOf n] [] s s') ∧
      ((∀ b ∈ kinds, b.toNat ≤ 8) → State.Replied t .cell tag .ok [if s'.attn then 1 else 0] [.events] s s' ∧
        ∀ k : Fin 9, s'.events.get k = if (∃ b ∈ kinds, b.toNat = k.val)
          then { s.events.get k with pending := false, count := 0 } else s.events.get k) := by
  have handed : HandedOn (.acknowledgeEvents t .cell tag kinds) t .cell tag s :=
    handedOn_of_takes rfl rfl hs rfl (decide_eq_true fits)
  cases hfind : kinds.findIdx? fun b => (kindOf b).isNone with
  | some i =>
    obtain ⟨s', hexec, hreplied, -⟩ := handed.answered (acknowledgeEventsRequest_of_bad _ hfind)
      (State.keepsAllBut_nil _) (by decide)
    refine ⟨s', hexec, fun n b hb bad first => ?_, fun good => ?_⟩
    · rw [findIdx?_kindOf_eq_some hb bad first, Option.some.injEq] at hfind
      rw [hfind]
      exact hreplied
    · rw [(findIdx?_kindOf_eq_none_iff kinds).mpr good] at hfind
      cases hfind
  | none =>
    obtain ⟨s', hexec, hreplied, hevents⟩ := handed.answered_attn (acknowledgeEventsRequest_of_good _ hfind)
      (State.foldl_keepsAllBut _ _ State.clearKind_keepsAllBut)
    have good := (findIdx?_kindOf_eq_none_iff kinds).mp hfind
    refine ⟨s', hexec, fun n b hb bad _ => absurd (good b (List.mem_of_getElem? hb)) (by omega), fun _ => ⟨hreplied, ?_⟩⟩
    intro k
    rw [hevents, State.foldl_clearKind_get, State.handed_events]
    simp only [mem_filterMap_kindOf]

/-! ### Set Levels (R178) -/

theorem State.setLevel_get_same (k : Fin 9) (level : Fin 4) (s : State) :
    (s.setLevel k level).events.get k = { s.events.get k with level := level } := by
  simp [Vector.get_eq_getElem]

theorem State.setLevel_get_other {k n : Fin 9} (level : Fin 4) (s : State) (h : n ≠ k) :
    (s.setLevel k level).events.get n = s.events.get n := by
  have : k.val ≠ n.val := fun e => h (Fin.ext e.symm)
  simp [Vector.get_eq_getElem, this]

theorem State.setLevel_keepsAllBut (k : Fin 9) (level : Fin 4) (s : State) :
    s.KeepsAllBut [.events] (s.setLevel k level) :=
  ⟨rfl, fun p hp => by cases p <;> simp [State.shares] at hp ⊢⟩

/-- A kind that no pair names stays. -/
theorem State.foldl_setLevel_get_of_unnamed {xs : List (Fin 9 × Fin 4)} {k : Fin 9} (s : State)
    (h : ∀ x ∈ xs, x.1 ≠ k) : (xs.foldl (fun s x => s.setLevel x.1 x.2) s).events.get k = s.events.get k := by
  induction xs generalizing s with
  | nil => rfl
  | cons x xs ih =>
    obtain ⟨hx, hxs⟩ := List.forall_mem_cons.mp h
    rw [List.foldl_cons, ih _ hxs, State.setLevel_get_other _ _ hx.symm]

/-- A kind that one pair names takes the level of that pair, with its flag and its count kept. -/
theorem State.foldl_setLevel_get_of_mem {xs : List (Fin 9 × Fin 4)} {k : Fin 9} {level : Fin 4} (s : State)
    (distinct : xs.Pairwise fun x y => x.1 ≠ y.1) (h : (k, level) ∈ xs) :
    (xs.foldl (fun s x => s.setLevel x.1 x.2) s).events.get k = { s.events.get k with level := level } := by
  induction xs generalizing s with
  | nil => cases h
  | cons x xs ih =>
    obtain ⟨hx, distinct⟩ := List.pairwise_cons.mp distinct
    rw [List.foldl_cons]
    rcases List.mem_cons.mp h with rfl | h
    · rw [State.foldl_setLevel_get_of_unnamed _ fun y hy => (hx y hy).symm, State.setLevel_get_same]
    · rw [ih _ distinct h, State.setLevel_get_other _ _ (hx _ h).symm]

/-- The pair at an index is wrong: its code above 8, its level above 3, or its code in an earlier pair (R178). -/
def PairWrong (pairs : List (Byte × Byte)) (n : Nat) : Prop :=
  ∃ e, pairs[n]? = some e ∧ (8 < e.1.toNat ∨ 3 < e.2.toNat ∨ ∃ m e', m < n ∧ pairs[m]? = some e' ∧ e'.1 = e.1)

/-- The test of one index is that of a wrong pair. -/
theorem badLevelAt_iff (pairs : List (Byte × Byte)) (n : Nat) :
    ((pairs[n]?.any fun e => (levelPairOf e).isNone) ||
      (pairs.take n).any fun e => some e.1 = pairs[n]?.map Prod.fst) = true ↔ PairWrong pairs n := by
  unfold PairWrong
  cases he : pairs[n]? with
  | none => simp
  | some e =>
    have earlier : ((pairs.take n).any fun e' => decide (some e'.1 = (some e).map Prod.fst)) = true ↔
        ∃ m e', m < n ∧ pairs[m]? = some e' ∧ e'.1 = e.1 := by
      simp only [List.any_eq_true, List.mem_iff_getElem?, Option.map_some, Option.some.injEq, decide_eq_true_eq]
      constructor
      · rintro ⟨e', ⟨m, hm⟩, same⟩
        rw [List.getElem?_take] at hm
        split at hm
        · exact ⟨m, e', ‹_›, hm, same⟩
        · cases hm
      · rintro ⟨m, e', hlt, hm, same⟩
        exact ⟨e', ⟨m, by rw [List.getElem?_take, if_pos hlt, hm]⟩, same⟩
    rw [Bool.or_eq_true, earlier, Option.any_some, levelPairOf_isNone_iff]
    simp [or_assoc]

theorem PairWrong.lt_length {pairs : List (Byte × Byte)} {n : Nat} (h : PairWrong pairs n) : n < pairs.length := by
  obtain ⟨e, he, -⟩ := h
  exact (List.getElem?_eq_some_iff.mp he).1

/-- The first wrong pair is the one that the search finds. -/
theorem firstBadLevel_eq_some {pairs : List (Byte × Byte)} {n : Nat} (bad : PairWrong pairs n)
    (first : ∀ m < n, ¬PairWrong pairs m) : firstBadLevel pairs = some n := by
  refine List.find?_range_eq_some.mpr ⟨(badLevelAt_iff pairs n).mpr bad, List.mem_range.mpr bad.lt_length, fun m hm => ?_⟩
  rw [Bool.not_eq_true', ← Bool.not_eq_true, badLevelAt_iff]
  exact first m hm

theorem firstBadLevel_eq_none_iff (pairs : List (Byte × Byte)) :
    firstBadLevel pairs = none ↔ ∀ n, ¬PairWrong pairs n := by
  simp only [firstBadLevel, List.find?_eq_none, badLevelAt_iff, List.mem_range]
  exact ⟨fun h n wrong => h n wrong.lt_length wrong, fun h n _ => h n⟩

section
variable {pairs : List (Byte × Byte)} (good : ∀ n, ¬PairWrong pairs n)
include good

/-- With no pair wrong, each names a kind and a level. -/
theorem levelPairOf_of_good {e : Byte × Byte} (he : e ∈ pairs) : ∃ x, levelPairOf e = some x := by
  obtain ⟨n, hn⟩ := List.mem_iff_getElem?.mp he
  rw [← Option.ne_none_iff_exists', Ne, ← Option.isNone_iff_eq_none, levelPairOf_isNone_iff]
  exact fun bad => good n ⟨e, hn, by tauto⟩

/-- With no pair wrong, the pairs name distinct kinds. -/
theorem pairwise_levelPairs : (pairs.filterMap levelPairOf).Pairwise fun x y => x.1 ≠ y.1 := by
  have codes : pairs.Pairwise fun e e' => e.1 ≠ e'.1 := by
    refine List.pairwise_iff_getElem.mpr fun m n hm hn hlt same => good n ⟨pairs[n], List.getElem?_eq_getElem hn, ?_⟩
    exact .inr (.inr ⟨m, pairs[m], hlt, List.getElem?_eq_getElem hm, same⟩)
  refine codes.filterMap levelPairOf fun e e' hne x hx y hy same => hne (BitVec.eq_of_toNat_eq ?_)
  rw [← ((levelPairOf_eq_some_iff e x).mp hx).1, ← ((levelPairOf_eq_some_iff e' y).mp hy).1, same]

/-- What the pairs leave at a kind: its level given by the pair that names it, and nothing else changed (R178). -/
theorem State.foldl_setLevel_spec (k : Fin 9) (s : State) :
    let s' := (pairs.filterMap levelPairOf).foldl (fun s x => s.setLevel x.1 x.2) s
    (s'.events.get k).pending = (s.events.get k).pending ∧ (s'.events.get k).count = (s.events.get k).count ∧
    (∀ e ∈ pairs, e.1.toNat = k.val → (s'.events.get k).level.val = e.2.toNat) ∧
    ((∀ e ∈ pairs, e.1.toNat ≠ k.val) → s'.events.get k = s.events.get k) := by
  intro s'
  have named : ∀ e ∈ pairs, e.1.toNat = k.val → ∃ level : Fin 4,
      level.val = e.2.toNat ∧ s'.events.get k = { s.events.get k with level := level } := by
    intro e he code
    obtain ⟨⟨k', level⟩, hx⟩ := levelPairOf_of_good good he
    obtain ⟨kind_eq, level_eq⟩ := (levelPairOf_eq_some_iff e _).mp hx
    have same : k' = k := Fin.ext (kind_eq.trans code)
    subst same
    exact ⟨level, level_eq, State.foldl_setLevel_get_of_mem s (pairwise_levelPairs good)
      (List.mem_filterMap.mpr ⟨e, he, hx⟩)⟩
  have unnamed : (∀ e ∈ pairs, e.1.toNat ≠ k.val) → s'.events.get k = s.events.get k := by
    refine fun none_names => State.foldl_setLevel_get_of_unnamed s fun x hx same => ?_
    obtain ⟨e, he, hx⟩ := List.mem_filterMap.mp hx
    exact none_names e he (((levelPairOf_eq_some_iff e x).mp hx).1.symm.trans (congrArg Fin.val same))
  have kept : (s'.events.get k).pending = (s.events.get k).pending ∧ (s'.events.get k).count = (s.events.get k).count := by
    by_cases names : ∃ e ∈ pairs, e.1.toNat = k.val
    · obtain ⟨e, he, code⟩ := names
      obtain ⟨level, -, entry_eq⟩ := named e he code
      rw [entry_eq]
      exact ⟨rfl, rfl⟩
    · rw [unnamed fun e he code => names ⟨e, he, code⟩]
      exact ⟨rfl, rfl⟩
  refine ⟨kept.1, kept.2, fun e he code => ?_, unnamed⟩
  obtain ⟨level, level_eq, entry_eq⟩ := named e he code
  rw [entry_eq, ← level_eq]

end

theorem setLevelsRequest_of_bad {pairs : List (Byte × Byte)} {n : Nat} (s : State) (hn : firstBadLevel pairs = some n) :
    setLevelsRequest pairs s = (s, some (refusalAt .range n)) := by
  simp only [setLevelsRequest, hn]

theorem setLevelsRequest_of_good {pairs : List (Byte × Byte)} (s : State) (hn : firstBadLevel pairs = none) :
    setLevelsRequest pairs s =
      let s' := (pairs.filterMap levelPairOf).foldl (fun s x => s.setLevel x.1 x.2) s
      (s', some (okReply [boolByte s'.attn])) := by
  simp only [setLevelsRequest, hn]

/-- What a Set Levels does: RANGE at the first wrong pair, or exactly the levels named set (R178). -/
theorem exec_setLevels {t : Nat} {tag : Byte} {pairs : List (Byte × Byte)} {s : State} (hs : s.Takes .cell)
    (fits : pairs.length ≤ 125) :
    ∃ s' : State, exec (.setLevels t .cell tag pairs) s = .next s' ∧
      (∀ n, PairWrong pairs n → (∀ m < n, ¬PairWrong pairs m) → State.Replied t .cell tag .range [byteOf n] [] s s') ∧
      ((∀ n, ¬PairWrong pairs n) → State.Replied t .cell tag .ok [if s'.attn then 1 else 0] [.events] s s' ∧
        ∀ k : Fin 9, (s'.events.get k).pending = (s.events.get k).pending ∧
          (s'.events.get k).count = (s.events.get k).count ∧
          (∀ e ∈ pairs, e.1.toNat = k.val → (s'.events.get k).level.val = e.2.toNat) ∧
          ((∀ e ∈ pairs, e.1.toNat ≠ k.val) → s'.events.get k = s.events.get k)) := by
  have handed : HandedOn (.setLevels t .cell tag pairs) t .cell tag s := handedOn_of_takes rfl rfl hs rfl
    (by simp [RequestCode.lengthSuits, length_pairBytes, Config.payloadMax]; omega)
  cases hfind : firstBadLevel pairs with
  | some i =>
    obtain ⟨s', hexec, hreplied, -⟩ := handed.answered (setLevelsRequest_of_bad _ hfind)
      (State.keepsAllBut_nil _) (by decide)
    refine ⟨s', hexec, fun n bad first => ?_, fun good => ?_⟩
    · rw [firstBadLevel_eq_some bad first, Option.some.injEq] at hfind
      rw [hfind]
      exact hreplied
    · rw [(firstBadLevel_eq_none_iff pairs).mpr good] at hfind
      cases hfind
  | none =>
    obtain ⟨s', hexec, hreplied, hevents⟩ := handed.answered_attn (setLevelsRequest_of_good _ hfind)
      (State.foldl_keepsAllBut _ _ fun x s => s.setLevel_keepsAllBut x.1 x.2)
    have good := (firstBadLevel_eq_none_iff pairs).mp hfind
    refine ⟨s', hexec, fun n bad _ => absurd bad (good n), fun _ => ⟨hreplied, fun k => ?_⟩⟩
    simpa only [hevents, State.handed_events] using State.foldl_setLevel_spec good k (s.handed t .cell)

/-- Settles O49, from what each of the two requests does. -/
theorem acknowledgeAndSetLevelsAreWhole : Obligations.AcknowledgeAndSetLevelsAreWhole := by
  unfold Obligations.AcknowledgeAndSetLevelsAreWhole
  intro t tag kinds pairs s hs hkinds hpairs
  exact ⟨exec_acknowledgeEvents hs hkinds, exec_setLevels hs hpairs⟩

end Sys2Proof.Machine

/-! SUPPORT. A request its link does not hand on, and Identify. -/

namespace Sys2Proof.Machine

/-! ### A request that its block never sees (R162 steps 1 and 2) -/

section
variable {i : Instr} {t : Nat} {l : Link} {tag : Byte} {c : RequestCode} {p : List Byte} {s : State}

/-- A request that finds no place for an answer goes no further than a LINK ERROR (R162 step 1). -/
theorem exec_request_of_full (ha : arrivalOf i = some (t, l, tag)) (he : encodeRequest i = some (c, p))
    (operates : s.phase = .operating) (full : (s.link l).hasPlace = false) :
    exec i s = .next ((s.handed t l).raise .linkError) := by
  rw [exec_request s ha he, requestCommand_eq, operates]
  simp only [State.judgeFrame_full l tag _ _ _ (s.arrive t 0) (by simpa using full), State.handed]

/-- A request that finds one in progress on its link is answered BUSY (R162 step 2). -/
theorem exec_request_of_busy (ha : arrivalOf i = some (t, l, tag)) (he : encodeRequest i = some (c, p))
    (operates : s.phase = .operating) (place : (s.link l).hasPlace = true)
    (busy : (s.link l).inProgress.isSome = true) :
    exec i s = .next ((s.handed t l).queueAnswer l (answerFrame .busy tag [])) := by
  rw [exec_request s ha he, requestCommand_eq, operates]
  simp only [State.judgeFrame_busy l tag _ _ _ (s.arrive t 0) (by simpa using place) (by simpa using busy), State.handed]

end

/-- A request discarded with a LINK ERROR leaves every part but the time, the lines, its link and the events. -/
theorem State.handed_raise_keepsAllBut (t : Nat) (l : Link) (k : EventKind) (s : State) :
    s.KeepsAllBut [.now, .driven, .links, .events] ((s.handed t l).raise k) :=
  (s.handed_keepsAllBut t l).trans ((s.handed t l).raise_keepsAllBut k)

/-! ### Identify (R185) -/

/-- Settles O46, by what the link finds: no place for an answer, a request in progress, or neither, where Identify's block
answers. -/
theorem identifyAnswersThePartCode : Obligations.IdentifyAnswersThePartCode := by
  unfold Obligations.IdentifyAnswersThePartCode
  intro t l tag s operates
  cases place : (s.link l).hasPlace with
  | false =>
    exact ⟨_, exec_request_of_full rfl rfl operates place, fun takes => absurd takes (by simp [State.Takes, place]),
      fun placed => absurd placed Bool.false_ne_true, fun _ => ⟨s.handed_raise_keepsAllBut t l .linkError, by simp⟩⟩
  | true =>
    cases progress : (s.link l).inProgress with
    | some request =>
      exact ⟨_, exec_request_of_busy rfl rfl operates place (by simp [progress]),
        fun takes => absurd takes (by simp [State.Takes, progress]),
        fun _ _ => State.replied_of_keepsAllBut tag .busy [] (State.keepsAllBut_nil _) (by decide), fun full => nomatch full⟩
    | none =>
      have handed : HandedOn (.identify t l tag) t l tag s :=
        handedOn_of_takes rfl rfl ⟨operates, place, progress⟩ (by cases l <;> rfl) rfl
      have request : requestOp (.identify t l tag) (s.handed t l) =
          (s.handed t l, some (okReply [0x0B, 0x28, 0x01, boolByte s.config.defaultsFlag])) := by
        simp only [requestOp, identifyRequest, State.handed_config]
      obtain ⟨s', hexec, hreplied, -⟩ := handed.answered request (State.keepsAllBut_nil _) (by decide)
      exact ⟨s', hexec, fun _ => hreplied, fun _ busy => by simp at busy, fun full => nomatch full⟩

end Sys2Proof.Machine
